-- ==== Sys2Proof/Word.lean ====
section
/-! DEFINITION. The selector word: the CORE's stand-in for an instruction word. -/

namespace Sys2Proof

/-- A selector word `sel = (unit[3:0], st[3:0], c[3:0])`: 12 bits, `unit` in bits 11:8, `st` in bits 7:4 and
`c` in bits 3:0 (30_encoding.md R110, R135). -/
abbrev Word := BitVec 12

end Sys2Proof
end

