-- ==== Sys2Proof/Config.lean ====
section
/-! DEFINITION. The parameters that an implementation of the CORE fixes before reset (00_scope.md R7).

The spec gives them no values ("every value is a model argument"), so a configuration is plain data that `State`
carries and no step changes (log 1). -/

namespace Sys2Proof

/-- The configuration parameters of R7. `k`, `S`, `shift`, `output_max` and `CHW` are derived from them (Machine/Params.lean).
The lists `thr` and `mul` are the tables `thr[0..N]` and `mul[0..N-1]` of R82. -/
structure Config where
  /-- rectifier sample width, bits per channel -/
  WR : Nat
  /-- boxcar sample width -/
  WB : Nat
  /-- boxcar window depth -/
  D : Nat
  /-- peak follower sample width -/
  WP : Nat
  /-- decay interval, in samples -/
  n : Nat
  /-- decay precision, fractional bits -/
  point : Nat
  /-- quantizer input width -/
  IW : Nat
  /-- quantizer output width -/
  OW : Nat
  /-- width of the `mul` field of a quantizer item -/
  MW : Nat
  /-- number of bar-graph segments -/
  N : Nat
  /-- ascending thresholds `thr[0..N]` -/
  thr : List Nat
  /-- per-segment scale factors `mul[0..N-1]` -/
  mul : List Nat
  /-- key serializer snapshot width -/
  K : Nat
  /-- selection controller key snapshot width -/
  KU : Nat
  /-- bit position of key SW (`SW_BIT`) -/
  swBit : Nat
  /-- bit position of key A (`A_BIT`) -/
  aBit : Nat
  /-- bit position of key B (`B_BIT`) -/
  bBit : Nat
  /-- number of selectable channels -/
  chans : Nat
  /-- LED ring length -/
  leds : Nat
  /-- intensity constant -/
  bright : Nat
  /-- width of each colour field of an LED frame -/
  CW : Nat
  /-- width of the address field of an LED frame -/
  AW : Nat
  deriving DecidableEq, Repr

/-- The default test parameters of 95_test_vectors.md (DESIGN CHOICE, log 1): "The defaults are test arguments, not
values from the source". The state after reset that the model names is reset under these; every statement about
the machine is about every configuration. -/
def Config.default : Config :=
  { WR := 8, WB := 9, D := 4
    WP := 8, n := 2, point := 4
    IW := 8, OW := 4, MW := 4, N := 3, thr := [0, 8, 32, 100], mul := [15, 5, 1]
    K := 4
    KU := 3, swBit := 0, aBit := 1, bBit := 2
    chans := 5, leds := 8, bright := 7, CW := 4, AW := 3 }

end Sys2Proof
end

