-- ==== Sys2Proof/Syntax.lean ====
section
/-! DEFINITION. The operations of the CORE: one constructor per row of spec/opcode_table.json, and the eight units
that execute them. -/

namespace Sys2Proof

/-- The eight units (00_scope.md R2), in the order of their selector codes (30_encoding.md R111). -/
inductive UnitId where
  | rect | box | peak | qnt | bar | key | uik | uio
  deriving DecidableEq, Repr

/-- One operation: what one unit does in one tick (30_encoding.md R136). An operation has no operand fields: the bits
of its selector word that its row leaves free are condition bits that its rule ignores (R132). -/
inductive Instr where
  | rectXfer | rectStall | rectNone
  | boxWaitin | boxAccept | boxWrite | boxAccum | boxEmit | boxHold | boxDrain
  | peakAttack | peakHold | peakDecay | peakKeep | peakDrain
  | qntSathi | qntSatlo | qntDefer | qntHalf | qntNoacc | qntMul
  | barPresent | barStall | barAccept | barWaitin
  | keyWaitin | keyAccept | keyDone | keyIsolate | keySendwait | keySend
  | uikNone | uikEnter | uikIgnore0 | uikCommit | uikStepUp | uikStepDown | uikIgnore1
  | uioRstep | uioRlast | uioRstall | uioPass | uioDrain | uioKeep
  deriving DecidableEq, Repr

end Sys2Proof
end

