-- ==== Sys2Proof/Decode.lean ====
section
/-! DEFINITION. The selector words: the rows of spec/opcode_table.json, the decoder, and after it the encoder. -/

namespace Sys2Proof

/-- `sel = (unit, st, c3 c2 c1 c0)` put together as R110 lays it out. -/
def mkSel (unit st : BitVec 4) (c0 c1 c2 c3 : Bool) : Word :=
  unit ++ st ++ (BitVec.ofBool c3 ++ BitVec.ofBool c2 ++ BitVec.ofBool c1 ++ BitVec.ofBool c0)

/-- The unit field, bits 11:8 (R110). -/
def Word.unitField (w : Word) : BitVec 4 := w.extractLsb' 8 4

/-- The state field, bits 7:4 (R110). -/
def Word.stField (w : Word) : BitVec 4 := w.extractLsb' 4 4

/-- Condition bit `c<j>`, one of bits 3:0 (R110). -/
def Word.cond (w : Word) (j : Nat) : Bool := w.getLsbD j

/-- The unit's code in the unit field (R111). -/
def UnitId.code : UnitId → BitVec 4
  | .rect => 0 | .box => 1 | .peak => 2 | .qnt => 3 | .bar => 4 | .key => 5 | .uik => 6 | .uio => 7

/-- The units, in the order of their codes. -/
def UnitId.all : List UnitId := [.rect, .box, .peak, .qnt, .bar, .key, .uik, .uio]

/-- The unit that executes an operation (R136). -/
def Instr.unit : Instr → UnitId
  | .rectXfer | .rectStall | .rectNone => .rect
  | .boxWaitin | .boxAccept | .boxWrite | .boxAccum | .boxEmit | .boxHold | .boxDrain => .box
  | .peakAttack | .peakHold | .peakDecay | .peakKeep | .peakDrain => .peak
  | .qntSathi | .qntSatlo | .qntDefer | .qntHalf | .qntNoacc | .qntMul => .qnt
  | .barPresent | .barStall | .barAccept | .barWaitin => .bar
  | .keyWaitin | .keyAccept | .keyDone | .keyIsolate | .keySendwait | .keySend => .key
  | .uikNone | .uikEnter | .uikIgnore0 | .uikCommit | .uikStepUp | .uikStepDown | .uikIgnore1 => .uik
  | .uioRstep | .uioRlast | .uioRstall | .uioPass | .uioDrain | .uioKeep => .uio

/-- The bits of a row that are fixed: its `mask` in opcode_table.json. -/
def Instr.mask : Instr → Word
  | .rectXfer => 0xFFF#12
  | .rectStall => 0xFFF#12
  | .rectNone => 0xFFD#12
  | .boxWaitin => 0xFFD#12
  | .boxAccept => 0xFFD#12
  | .boxWrite => 0xFFC#12
  | .boxAccum => 0xFFC#12
  | .boxEmit => 0xFFC#12
  | .boxHold => 0xFFE#12
  | .boxDrain => 0xFFE#12
  | .peakAttack => 0xFF3#12
  | .peakHold => 0xFF7#12
  | .peakDecay => 0xFF7#12
  | .peakKeep => 0xFF9#12
  | .peakDrain => 0xFF9#12
  | .qntSathi => 0xFF3#12
  | .qntSatlo => 0xFF7#12
  | .qntDefer => 0xFFF#12
  | .qntHalf => 0xFFF#12
  | .qntNoacc => 0xFF1#12
  | .qntMul => 0xFF0#12
  | .barPresent => 0xFFE#12
  | .barStall => 0xFFE#12
  | .barAccept => 0xFFD#12
  | .barWaitin => 0xFFD#12
  | .keyWaitin => 0xFF9#12
  | .keyAccept => 0xFF9#12
  | .keyDone => 0xFFA#12
  | .keyIsolate => 0xFFA#12
  | .keySendwait => 0xFFC#12
  | .keySend => 0xFFC#12
  | .uikNone => 0xFE1#12
  | .uikEnter => 0xFF3#12
  | .uikIgnore0 => 0xFF3#12
  | .uikCommit => 0xFF3#12
  | .uikStepUp => 0xFFF#12
  | .uikStepDown => 0xFFF#12
  | .uikIgnore1 => 0xFF7#12
  | .uioRstep => 0xFF5#12
  | .uioRlast => 0xFF5#12
  | .uioRstall => 0xFF1#12
  | .uioPass => 0xFF3#12
  | .uioDrain => 0xFF3#12
  | .uioKeep => 0xFF1#12

/-- The value of a row's fixed bits: its `match` in opcode_table.json. -/
def Instr.pattern : Instr → Word
  | .rectXfer => 0x003#12
  | .rectStall => 0x001#12
  | .rectNone => 0x000#12
  | .boxWaitin => 0x100#12
  | .boxAccept => 0x101#12
  | .boxWrite => 0x110#12
  | .boxAccum => 0x120#12
  | .boxEmit => 0x130#12
  | .boxHold => 0x140#12
  | .boxDrain => 0x142#12
  | .peakAttack => 0x203#12
  | .peakHold => 0x201#12
  | .peakDecay => 0x205#12
  | .peakKeep => 0x200#12
  | .peakDrain => 0x208#12
  | .qntSathi => 0x303#12
  | .qntSatlo => 0x305#12
  | .qntDefer => 0x301#12
  | .qntHalf => 0x309#12
  | .qntNoacc => 0x300#12
  | .qntMul => 0x310#12
  | .barPresent => 0x402#12
  | .barStall => 0x400#12
  | .barAccept => 0x411#12
  | .barWaitin => 0x410#12
  | .keyWaitin => 0x500#12
  | .keyAccept => 0x501#12
  | .keyDone => 0x512#12
  | .keyIsolate => 0x510#12
  | .keySendwait => 0x520#12
  | .keySend => 0x524#12
  | .uikNone => 0x600#12
  | .uikEnter => 0x603#12
  | .uikIgnore0 => 0x601#12
  | .uikCommit => 0x613#12
  | .uikStepUp => 0x61D#12
  | .uikStepDown => 0x615#12
  | .uikIgnore1 => 0x611#12
  | .uioRstep => 0x711#12
  | .uioRlast => 0x715#12
  | .uioRstall => 0x710#12
  | .uioPass => 0x703#12
  | .uioDrain => 0x701#12
  | .uioKeep => 0x700#12

/-- The operations, in the order of opcode_table.json. -/
def Instr.all : List Instr :=
  [.rectXfer, .rectStall, .rectNone] ++
  [.boxWaitin, .boxAccept, .boxWrite, .boxAccum, .boxEmit, .boxHold, .boxDrain] ++
  [.peakAttack, .peakHold, .peakDecay, .peakKeep, .peakDrain] ++
  [.qntSathi, .qntSatlo, .qntDefer, .qntHalf, .qntNoacc, .qntMul] ++
  [.barPresent, .barStall, .barAccept, .barWaitin] ++
  [.keyWaitin, .keyAccept, .keyDone, .keyIsolate, .keySendwait, .keySend] ++
  [.uikNone, .uikEnter, .uikIgnore0, .uikCommit, .uikStepUp, .uikStepDown, .uikIgnore1] ++
  [.uioRstep, .uioRlast, .uioRstall, .uioPass, .uioDrain, .uioKeep]

/-- R110: "a row matches when `sel_u & mask = match`". -/
def Instr.covers (i : Instr) (w : Word) : Bool := w &&& i.mask == i.pattern

/-- The operation a selector word selects: the row it matches; `none` where no row matches (R133, an illegal
selector). -/
def decode (w : Word) : Option Instr := Instr.all.find? (fun i => i.covers w)

/-- A word that selects the operation: the row's fixed bits, its free condition bits 0. The words that select `i` are
exactly those that `i.covers`. -/
def encode (i : Instr) : Word := i.pattern

/-- The operation the decoder reads from the bits `w`, numbered as opcode_table.json numbers them. A selector word is
12 bits and is stored nowhere (R110, R135), so the bits above bit 11 that fill its whole bytes must be 0. -/
def decodeTableWord (nbits w : Nat) : Option Instr :=
  if w < 2 ^ 12 ∧ w < 2 ^ nbits then decode (BitVec.ofNat 12 w) else none

end Sys2Proof
end

