-- ==== Sys2Proof/Machine/Params.lean ====
section
/-! DEFINITION. The derived parameters of 00_scope.md R7, the reading of the constant tables (20_memory.md R82) and the
conditions of the configuration check (70_reset_and_hazards.md R405). -/

namespace Sys2Proof

/-- `ceil(log2 v)` for `v >= 1`. -/
def clog2 (v : Nat) : Nat := if v ≤ 1 then 0 else Nat.log2 (v - 1) + 1

/-- `k = log2(D)` (R7). -/
def Config.k (c : Config) : Nat := Nat.log2 c.D

/-- The boxcar running-sum width `S = WB + k + 1` (R7; log 14). -/
def Config.S (c : Config) : Nat := c.WB + c.k + 1

/-- The width of `ui_sel`, `CHW = max(1, ceil(log2(chans)))` (R7; log 14). -/
def Config.CHW (c : Config) : Nat := max 1 (clog2 c.chans)

/-- `shift = IW - OW - 1` (R7). -/
def Config.shift (c : Config) : Nat := c.IW - c.OW - 1

/-- `output_max = 2^OW - 1` (R7). -/
def Config.outputMax (c : Config) : Nat := 2 ^ c.OW - 1

/-- The width of `peak.count`: `max(1, ceil(log2 n))` bits (10_state.md R26). -/
def Config.countWidth (c : Config) : Nat := max 1 (clog2 c.n)

/-- The width of `bar.idx`: `ceil(log2(N+1))` bits (10_state.md R30). -/
def Config.idxWidth (c : Config) : Nat := clog2 (c.N + 1)

/-- `thr[i]` (R82). -/
def Config.thrAt (c : Config) (i : Nat) : Nat := c.thr.getD i 0

/-- `mul[i]` (R82). -/
def Config.mulAt (c : Config) (i : Nat) : Nat := c.mul.getD i 0

/-- Condition `C_RECT_BOX` of R405. -/
def Config.okRectBox (c : Config) : Bool := 1 ≤ c.WR && c.WR + 1 ≤ c.WB

/-- Condition `C_D_POW2` of R405: `D = 2^k` for some `k >= 0`. -/
def Config.okDPow2 (c : Config) : Bool := c.D == 2 ^ c.k

/-- Condition `C_SUM_W` of R405; it holds of every configuration, since `S` is derived (log 14). -/
def Config.okSumW (c : Config) : Bool := c.S == c.WB + c.k + 1

/-- Condition `C_PEAK` of R405 (`point >= 0` holds of every natural number). -/
def Config.okPeak (c : Config) : Bool := 1 ≤ c.WP && 1 ≤ c.n

/-- Condition `C_QNT_W` of R405. -/
def Config.okQntW (c : Config) : Bool := 1 ≤ c.OW && c.OW + 1 ≤ c.IW

/-- Condition `C_N` of R405, with the shape R7 gives the tables: `thr[0..N]` and `mul[0..N-1]` (log 14). -/
def Config.okN (c : Config) : Bool := 1 ≤ c.N && c.thr.length == c.N + 1 && c.mul.length == c.N

/-- Condition `C_THR_ASC` of R405. -/
def Config.okThrAsc (c : Config) : Bool :=
  (List.range c.N).all (fun i => c.thrAt i < c.thrAt (i + 1)) && c.thrAt c.N < 2 ^ c.IW

/-- Condition `C_MUL_NONZERO` of R405. -/
def Config.okMulNonzero (c : Config) : Bool := (List.range c.N).all (fun i => c.mulAt i != 0)

/-- Condition `C_MUL_W` of R405. -/
def Config.okMulW (c : Config) : Bool := 1 ≤ c.MW && (List.range c.N).all (fun i => c.mulAt i < 2 ^ c.MW)

/-- Condition `C_KEY` of R405. -/
def Config.okKey (c : Config) : Bool := 1 ≤ c.K

/-- Condition `C_UI_KEYS` of R405. -/
def Config.okUiKeys (c : Config) : Bool :=
  1 ≤ c.KU && c.swBit != c.aBit && c.swBit != c.bBit && c.aBit != c.bBit &&
    c.swBit < c.KU && c.aBit < c.KU && c.bBit < c.KU

/-- Condition `C_UI` of R405, with `AW >= 1`, which R7 asks for and R405 does not list (log 19). -/
def Config.okUi (c : Config) : Bool :=
  1 ≤ c.chans && 1 ≤ c.leds && c.leds ≤ 2 ^ c.AW && c.chans ≤ 2 ^ c.CHW && 1 ≤ c.AW

/-- Condition `C_BRIGHT` of R405 (`0 <= bright` holds of every natural number). -/
def Config.okBright (c : Config) : Bool := 1 ≤ c.CW && c.bright < 2 ^ c.CW

end Sys2Proof
end

