-- ==== Sys2Proof/WellFormed.lean ====
section
/-! DEFINITION. Well-formedness: the configuration check of 70_reset_and_hazards.md R405.

An operation carries no operand, so every term of `Instr` is well-formed (30_encoding.md R134: "Every row of
opcode_table.json has the meaning given by its rule"); what the spec has checked before the machine runs is the
configuration. -/

namespace Sys2Proof

/-- The named checks of R405. -/
inductive Check where
  | rectBox | dPow2 | sumW | peak | qntW | numSegments | thrAsc | mulNonzero | mulW | keyWidth | uiKeys | uiRing | brightness
  deriving DecidableEq, Repr

/-- The checks, in the order of R405's table. -/
def Check.all : List Check :=
  [.rectBox, .dPow2, .sumW, .peak, .qntW, .numSegments, .thrAsc, .mulNonzero, .mulW, .keyWidth, .uiKeys, .uiRing,
    .brightness]

/-- The name R405 gives a check. -/
def Check.label : Check → String
  | .rectBox => "C_RECT_BOX"
  | .dPow2 => "C_D_POW2"
  | .sumW => "C_SUM_W"
  | .peak => "C_PEAK"
  | .qntW => "C_QNT_W"
  | .numSegments => "C_N"
  | .thrAsc => "C_THR_ASC"
  | .mulNonzero => "C_MUL_NONZERO"
  | .mulW => "C_MUL_W"
  | .keyWidth => "C_KEY"
  | .uiKeys => "C_UI_KEYS"
  | .uiRing => "C_UI"
  | .brightness => "C_BRIGHT"

/-- Whether a configuration passes a check (R405). -/
def Check.passes (c : Config) : Check → Bool
  | .rectBox => c.okRectBox
  | .dPow2 => c.okDPow2
  | .sumW => c.okSumW
  | .peak => c.okPeak
  | .qntW => c.okQntW
  | .numSegments => c.okN
  | .thrAsc => c.okThrAsc
  | .mulNonzero => c.okMulNonzero
  | .mulW => c.okMulW
  | .keyWidth => c.okKey
  | .uiKeys => c.okUiKeys
  | .uiRing => c.okUi
  | .brightness => c.okBright

/-- "it refuses the configuration and returns the names of the failed checks" (R405). -/
def Config.failedChecks (c : Config) : List Check := Check.all.filter (fun k => !k.passes c)

/-- A configuration that passes every check (R405). -/
def Config.wellFormed (c : Config) : Bool := Check.all.all (fun k => k.passes c)

/-- Every operation is well-formed: it has no operand that could be out of range (R132, R134). -/
def Instr.wellFormed (_ : Instr) : Bool := true

end Sys2Proof
end

