-- ==== Sys2Proof/Machine/State.lean ====
section
/-! DEFINITION. The state of the CORE (10_state.md), of its environment (20_memory.md R76, 30_encoding.md R137), and
the reasons a step can stop.

Registers are held as numbers, as 00_scope.md R9 reads a field: an unsigned `w`-bit field as its value below `2^w`, a
signed one as its two's complement value. A store narrows to the field's width (Machine/Operands.lean). The sequencing
codes, which the spec gives bit by bit, are bit-vectors, so that an unused code can be held and reported (R133). -/

namespace Sys2Proof.Machine

/-! ### Ports -/

/-- The stream input ports of the CORE (20_memory.md R92). -/
inductive InPort where
  | rectIn | peakIn | barIn | keyIn | uiKeyIn | uiPtIn
  deriving DecidableEq, Repr

/-- The stream output ports of the CORE (20_memory.md R92). -/
inductive OutPort where
  | boxOut | peakOut | qntOut | keyOut | uiOut
  deriving DecidableEq, Repr

/-- One thing for each input port. -/
structure InPorts (α : Type) where
  rectIn : α
  peakIn : α
  barIn : α
  keyIn : α
  uiKeyIn : α
  uiPtIn : α
  deriving DecidableEq, Repr

/-- One thing for each output port. -/
structure OutPorts (α : Type) where
  boxOut : α
  peakOut : α
  qntOut : α
  keyOut : α
  uiOut : α
  deriving DecidableEq, Repr

/-- An item of a stream: its payload packed as 30_encoding.md R120 lays it out, and its framing (R75). -/
structure Item where
  payload : Nat
  first : Bool
  last : Bool
  deriving DecidableEq, Repr

/-- What a producer drives on a stream in a tick (20_memory.md R70): `valid`, and the item it presents. While `valid`
is 0 the item is any value (93_implementation_defined.md I5). -/
structure Offer where
  valid : Bool
  item : Item
  deriving DecidableEq, Repr

/-- What the environment fixes for one tick (20_memory.md R76 phase 1): its offer on every input port and its `ready`
on every output port. -/
structure TickIn where
  offers : InPorts Offer
  readys : OutPorts Bool
  deriving DecidableEq, Repr

/-! ### Registers -/

/-- The codes of `box.state` (10_state.md R24). -/
abbrev boxIdle : BitVec 3 := 0
@[inherit_doc boxIdle] abbrev boxWrite : BitVec 3 := 1
@[inherit_doc boxIdle] abbrev boxAccum : BitVec 3 := 2
@[inherit_doc boxIdle] abbrev boxEmit : BitVec 3 := 3
@[inherit_doc boxIdle] abbrev boxWait : BitVec 3 := 4

/-- The codes of `qnt.state` (10_state.md R28). -/
abbrev qntIdle : BitVec 1 := 0
@[inherit_doc qntIdle] abbrev qntMul : BitVec 1 := 1

/-- The codes of `key.state` (10_state.md R31). -/
abbrev keyIdle : BitVec 2 := 0
@[inherit_doc keyIdle] abbrev keyCalc : BitVec 2 := 1
@[inherit_doc keyIdle] abbrev keySend : BitVec 2 := 2

/-- The ring buffer (20_memory.md R81): its words by index, an unlisted word reading `Memory.unlisted`. Indices rise
strictly and no listed word equals what an unlisted one reads as (`Memory.wf`), so equal buffers are equal lists. The
word, not the byte, is the unit the spec addresses (R84; log 9). -/
abbrev Memory := List (Nat × Int)

/-- What an unlisted word reads as: its reset value (10_state.md R24, "all 0"). -/
abbrev Memory.unlisted : Int := 0

/-- The canonical form: indices strictly rising, no entry with the unlisted value. -/
def Memory.wf : Memory → Bool
  | [] => true
  | [(_, v)] => v != Memory.unlisted
  | (a, v) :: (b, w) :: rest => v != Memory.unlisted && a < b && Memory.wf ((b, w) :: rest)

/-- BOX registers (10_state.md R24). -/
structure Box where
  /-- FSM state, 3-bit code -/
  state : BitVec 3
  /-- ring-buffer write address, `k` bits -/
  addr : Nat
  /-- running sum of the ring-buffer contents, `S` bits signed -/
  sum : Int
  /-- latched new sample, `WB` bits signed (`box.new`) -/
  newSample : Int
  /-- sample read from `buf[addr]`, `WB` bits signed (`box.old`) -/
  oldSample : Int
  /-- `new - old`, `WB+1` bits signed -/
  delta : Int
  /-- registered output average, `WB` bits signed -/
  out : Int
  /-- ring buffer, `D` words of `WB` bits signed -/
  buf : Memory
  deriving DecidableEq, Repr

/-- PEAK registers (10_state.md R26). -/
structure Peak where
  /-- fractional envelope, `WP+point` bits -/
  peak : Nat
  /-- decay counter -/
  count : Nat
  /-- output slot valid -/
  ov : Bool
  /-- output slot payload, `WP` bits -/
  y : Nat
  deriving DecidableEq, Repr

/-- QNT registers (10_state.md R28). -/
structure Qnt where
  /-- FSM state, 1-bit code -/
  state : BitVec 1
  /-- output slot valid -/
  ov : Bool
  /-- output slot value, `OW` bits -/
  v : Nat
  /-- output slot `first` -/
  f : Bool
  /-- output slot `last` -/
  l : Bool
  /-- deferred operand `data - lo`, `IW` bits -/
  md : Nat
  /-- deferred operand `mul`, `MW` bits -/
  mm : Nat
  /-- deferred `first` -/
  mf : Bool
  /-- deferred `last` -/
  ml : Bool
  deriving DecidableEq, Repr

/-- BAR registers (10_state.md R30). -/
structure Bar where
  /-- segment index; `N` means idle -/
  idx : Nat
  /-- latched input sample, `IW` bits -/
  data : Nat
  deriving DecidableEq, Repr

/-- KEY registers (10_state.md R31). -/
structure Key where
  /-- FSM state, 2-bit code -/
  state : BitVec 2
  /-- previous snapshot, `K` bits -/
  prev : Nat
  /-- bits still to report, `K` bits -/
  diff : Nat
  /-- bit being reported, `K` bits -/
  mask : Nat
  /-- the next event is the first of its run -/
  first : Bool
  deriving DecidableEq, Repr

/-- An LED frame (30_encoding.md R131; the contents of the UI output slot, 10_state.md R33). -/
structure Frame where
  addr : Nat
  red : Nat
  green : Nat
  blue : Nat
  first : Bool
  last : Bool
  deriving DecidableEq, Repr

/-- UI registers, shared by UIK and UIO (10_state.md R33). -/
structure Ui where
  /-- committed channel index -/
  channel : Nat
  /-- candidate channel index -/
  edit : Nat
  /-- edit mode -/
  editMode : Bool
  /-- previous key snapshot, `KU` bits -/
  prevKeys : Nat
  /-- render sweep index, `AW` bits -/
  led : Nat
  /-- pending-render flag -/
  update : Bool
  /-- output slot valid -/
  ov : Bool
  /-- output slot contents -/
  frame : Frame
  deriving DecidableEq, Repr

/-! ### The model's fault record and port monitors -/

/-- What the `fault` register records: the code and info of 60_exceptions.md R370. The order of the constructors is the
order of the codes 1, 2, 3. -/
inductive FaultRecord where
  /-- `F_ENV_PROTOCOL`, info `(port, tick)` -/
  | envProtocol (port : InPort) (tick : Nat)
  /-- `F_ILLEGAL_STATE`, info `(unit, sel)` -/
  | illegalState (unit : UnitId) (sel : Word)
  /-- `F_ASSERT`, info `(unit, rule)`, the rule by its number -/
  | assertion (unit : UnitId) (rule : Nat)
  deriving DecidableEq, Repr

/-- The monitor record `mon_p` of an input port (60_exceptions.md R371). -/
structure Monitor where
  pending : Bool
  item : Item
  deriving DecidableEq, Repr

/-! ### The environment -/

/-- The environment's `ready` on an output port (30_encoding.md R137, `sink`). -/
inductive Sink where
  /-- `sink PORT ready`: always 1 -/
  | ready
  /-- `sink PORT stall`: always 0 -/
  | stall
  /-- `sink PORT from T`: 0 before tick `T`, 1 from tick `T` on -/
  | fromTick (t : Nat)
  deriving DecidableEq, Repr

/-- An item the environment has taken from an output port, and the tick of its transfer. -/
structure Taken where
  tick : Nat
  item : Item
  deriving DecidableEq, Repr

/-- The environment (20_memory.md R76, 30_encoding.md R137; log 4). -/
structure Env where
  /-- raw port traces of the coming ticks, the head for the next one; it overrides queues and sinks -/
  trace : List TickIn
  /-- the offer queue of every input port, oldest item first -/
  queues : InPorts (List Item)
  /-- what an input port carries while its queue is empty and `valid` is 0 (I5, any value; log 5) -/
  idle : InPorts Item
  /-- the `ready` rule of every output port -/
  sinks : OutPorts Sink
  /-- the items the environment has taken on every output port, oldest first -/
  taken : OutPorts (List Taken)
  deriving DecidableEq, Repr

/-! ### The state -/

/-- The state of the machine between two ticks. RECT has no register (10_state.md R23). -/
structure State where
  /-- the configuration; no step changes it (10_state.md R22; log 1) -/
  cfg : Config
  box : Box
  peak : Peak
  qnt : Qnt
  bar : Bar
  key : Key
  ui : Ui
  /-- the fault register, `none` for `NONE` (10_state.md R37) -/
  fault : Option FaultRecord
  /-- the port monitors (60_exceptions.md R371) -/
  mon : InPorts Monitor
  /-- the number of the coming tick (log 4) -/
  tick : Nat
  /-- the environment (log 4) -/
  env : Env
  deriving DecidableEq, Repr

/-- Why a step stops the machine. -/
inductive Fault where
  /-- Raised by `step` while the model is halted: "every later step returns the same fault and changes nothing"
  (60_exceptions.md R375). Safe: the spec stops there too. -/
  | halted (record : FaultRecord)
  /-- Raised by BOX.ACCEPT and BOX.WRITE for a ring-buffer index outside `0..D-1`, which the spec says cannot arise
  (20_memory.md R81; log 9). Safe: the model stops, and no state that meets `Inv` gets there. -/
  | ringIndex (index : Nat)
  deriving DecidableEq, Repr

/-- Why the machine has no next state. -/
inductive Refusal where
  /-- Raised by an arm of `exec` whose operation has no meaning yet (none is left). Safe: the model stops. -/
  | notModelled (mnemonic : String)
  /-- Raised by `boot`: the configuration failed these checks, and "A refused configuration has no state and no
  behaviour" (70_reset_and_hazards.md R405). Safe: the spec refuses it too. -/
  | configuration (failed : List Check)
  deriving DecidableEq, Repr

/-- What executing one operation answers. -/
abbrev Result := Host.Outcome State Fault Refusal

/-! ### Reset -/

/-- The same thing for every input port. -/
def InPorts.const {α : Type} (x : α) : InPorts α := ⟨x, x, x, x, x, x⟩

/-- The same thing for every output port. -/
def OutPorts.const {α : Type} (x : α) : OutPorts α := ⟨x, x, x, x, x⟩

/-- The item of all zeros. -/
def Item.zero : Item := ⟨0, false, false⟩

/-- An environment that offers nothing and is always ready: "An empty queue presents `valid = 0`", "The default is
`ready`" (30_encoding.md R137; log 4, log 5). -/
def Env.quiet : Env :=
  { trace := [], queues := .const [], idle := .const .zero, sinks := .const .ready, taken := .const [] }

/-- Every register at the value 70_reset_and_hazards.md R400 gives it, for a CORE configured by `c`. -/
def State.resetWith (c : Config) : State :=
  { cfg := c
    box := { state := boxIdle, addr := 0, sum := 0, newSample := 0, oldSample := 0, delta := 0, out := 0, buf := [] }
    peak := { peak := 0, count := 0, ov := false, y := 0 }
    qnt := { state := qntIdle, ov := false, v := 0, f := false, l := false, md := 0, mm := 0, mf := false, ml := false }
    bar := { idx := c.N, data := 0 }
    key := { state := keyIdle, prev := 0, diff := 0, mask := 0, first := false }
    ui := { channel := 0, edit := 0, editMode := false, prevKeys := 0, led := 0, update := false, ov := false
            frame := ⟨0, 0, 0, 0, false, false⟩ }
    fault := none
    mon := .const ⟨false, .zero⟩
    tick := 0
    env := .quiet }

/-- The machine right after reset (R400), under the configuration the model names (log 1), nothing offered. -/
def State.reset : State := State.resetWith Config.default

end Sys2Proof.Machine
end

