-- ==== Sys2Proof/Machine/Operands.lean ====
section
/-! DEFINITION. Operands: fields and their widths (00_scope.md R9), payload layouts (30_encoding.md R120-R131), the
environment's inputs of the coming tick (20_memory.md R76 phase 1), and the values the operations compute from
registers, payload fields and configuration constants (R132). -/

namespace Sys2Proof.Machine

/-! ### Fields -/

/-- Storing into an unsigned field of width `w`: "A field of width `w` holds the pattern `v mod 2^w`" (R9). -/
def storeU (w v : Nat) : Nat := v % 2 ^ w

/-- Storing into a signed field of width `w`, read back as two's complement (R9). -/
def storeS (w : Nat) (v : Int) : Int := v.bmod (2 ^ w)

/-- A pattern of width `w` read as signed: `p - 2^w` when bit `w-1` is 1, `p` otherwise (R9). -/
def readS (w p : Nat) : Int := if p.testBit (w - 1) then (p : Int) - 2 ^ w else p

/-- The pattern of a signed value in a field of width `w` (R9). -/
def patternS (w : Nat) (v : Int) : Nat := (v % 2 ^ w).toNat

/-- `bits[lo+w-1 : lo]` of a packed payload, read as unsigned (R9). -/
def field (p lo w : Nat) : Nat := storeU w (p >>> lo)

/-- `~x` on `w` bits: `2^w - 1 - x` (R10). -/
def complement (w x : Nat) : Nat := 2 ^ w - 1 - x

/-- `-x` on a `w`-bit bit-vector: `(2^w - x) mod 2^w` (R10). -/
def negate (w x : Nat) : Nat := (2 ^ w - x) % 2 ^ w

/-- `popcount` on `w` bits (R10). -/
def popcount (w x : Nat) : Nat := (List.range w).countP (fun i => x.testBit i)

/-! ### Ports -/

/-- What stands for an input port. -/
def InPorts.get {α : Type} (x : InPorts α) : InPort → α
  | .rectIn => x.rectIn
  | .peakIn => x.peakIn
  | .barIn => x.barIn
  | .keyIn => x.keyIn
  | .uiKeyIn => x.uiKeyIn
  | .uiPtIn => x.uiPtIn

/-- Replace what stands for one input port. -/
def InPorts.set {α : Type} (x : InPorts α) (p : InPort) (v : α) : InPorts α :=
  match p with
  | .rectIn => { x with rectIn := v }
  | .peakIn => { x with peakIn := v }
  | .barIn => { x with barIn := v }
  | .keyIn => { x with keyIn := v }
  | .uiKeyIn => { x with uiKeyIn := v }
  | .uiPtIn => { x with uiPtIn := v }

/-- What stands for an output port. -/
def OutPorts.get {α : Type} (x : OutPorts α) : OutPort → α
  | .boxOut => x.boxOut
  | .peakOut => x.peakOut
  | .qntOut => x.qntOut
  | .keyOut => x.keyOut
  | .uiOut => x.uiOut

/-- Replace what stands for one output port. -/
def OutPorts.set {α : Type} (x : OutPorts α) (p : OutPort) (v : α) : OutPorts α :=
  match p with
  | .boxOut => { x with boxOut := v }
  | .peakOut => { x with peakOut := v }
  | .qntOut => { x with qntOut := v }
  | .keyOut => { x with keyOut := v }
  | .uiOut => { x with uiOut := v }

/-- The input ports, in the order of 20_memory.md R92. -/
def InPort.all : List InPort := [.rectIn, .peakIn, .barIn, .keyIn, .uiKeyIn, .uiPtIn]

/-- The output ports, in the order of 20_memory.md R92. -/
def OutPort.all : List OutPort := [.boxOut, .peakOut, .qntOut, .keyOut, .uiOut]

/-- The width of an input port's packed payload (R121, R124, R125, R128, R130, R131). -/
def InPort.width (c : Config) : InPort → Nat
  | .rectIn => 2 * c.WR
  | .peakIn => c.WP
  | .barIn => c.IW
  | .keyIn => c.K
  | .uiKeyIn => c.KU
  | .uiPtIn => c.AW + 3 * c.CW

/-- The width of an output port's packed payload (R123, R124, R127, R129, R131). -/
def OutPort.width (c : Config) : OutPort → Nat
  | .boxOut => c.WB
  | .peakOut => c.WP
  | .qntOut => c.OW
  | .keyOut => c.K + 1
  | .uiOut => c.AW + 3 * c.CW

/-! ### Payload packing (R120: the first listed field takes the least significant bits) -/

/-- `rect_in`: `l`, then `r` (R121). -/
def packRect (c : Config) (l r : Int) : Nat := patternS c.WR l + patternS c.WR r <<< c.WR

/-- `key_out`: `mask`, then `level` (R129). -/
def packEvent (c : Config) (mask : Nat) (level : Bool) : Nat := storeU c.K mask + level.toNat <<< c.K

/-- LED frame: `addr`, `red`, `green`, `blue` (R131). -/
def packLed (c : Config) (addr red green blue : Nat) : Nat :=
  storeU c.AW addr + storeU c.CW red <<< c.AW + storeU c.CW green <<< (c.AW + c.CW) +
    storeU c.CW blue <<< (c.AW + 2 * c.CW)

/-- `bar_q`: `data`, `lo`, `hi`, `mul` (R126). -/
def packBarQ (c : Config) (data lo hi mul : Nat) : Nat :=
  storeU c.IW data + storeU c.IW lo <<< c.IW + storeU c.IW hi <<< (2 * c.IW) + storeU c.MW mul <<< (3 * c.IW)

/-! ### The environment's inputs of the coming tick -/

/-- Whether a sink is ready in tick `t` (R137). -/
def Sink.readyAt (t : Nat) : Sink → Bool
  | .ready => true
  | .stall => false
  | .fromTick t₀ => t₀ ≤ t

/-- The offer a queue makes: "The queue head is presented with `valid = 1` on every tick until it transfers. An empty
queue presents `valid = 0`" (R137), with any value as its item (I5). -/
def queueOffer (idle : Item) : List Item → Offer
  | [] => ⟨false, idle⟩
  | i :: _ => ⟨true, i⟩

/-- The environment's inputs of the coming tick, before fields are read: the head of the raw trace, or where no trace is
listed what the queues and sinks present (R76 phase 1, R137). -/
def rawInputs (s : State) : TickIn :=
  match s.env.trace with
  | t :: _ => t
  | [] =>
    { offers :=
        { rectIn := queueOffer s.env.idle.rectIn s.env.queues.rectIn
          peakIn := queueOffer s.env.idle.peakIn s.env.queues.peakIn
          barIn := queueOffer s.env.idle.barIn s.env.queues.barIn
          keyIn := queueOffer s.env.idle.keyIn s.env.queues.keyIn
          uiKeyIn := queueOffer s.env.idle.uiKeyIn s.env.queues.uiKeyIn
          uiPtIn := queueOffer s.env.idle.uiPtIn s.env.queues.uiPtIn }
      readys :=
        { boxOut := s.env.sinks.boxOut.readyAt s.tick
          peakOut := s.env.sinks.peakOut.readyAt s.tick
          qntOut := s.env.sinks.qntOut.readyAt s.tick
          keyOut := s.env.sinks.keyOut.readyAt s.tick
          uiOut := s.env.sinks.uiOut.readyAt s.tick } }

/-- `p.valid` of an input port in the coming tick. -/
def inValid (p : InPort) (s : State) : Bool := ((rawInputs s).offers.get p).valid

/-- The item on an input port in the coming tick, its payload in the port's width. -/
def inItem (p : InPort) (s : State) : Item :=
  let i := ((rawInputs s).offers.get p).item
  { i with payload := storeU (p.width s.cfg) i.payload }

/-- `p.ready` of an output port in the coming tick. -/
def outReady (p : OutPort) (s : State) : Bool := (rawInputs s).readys.get p

/-! ### Operands of RECT and BOX -/

/-- `rect_in.l` (R121). -/
def rectL (s : State) : Int := readS s.cfg.WR (field (inItem .rectIn s).payload 0 s.cfg.WR)

/-- `rect_in.r` (R121). -/
def rectR (s : State) : Int := readS s.cfg.WR (field (inItem .rectIn s).payload s.cfg.WR s.cfg.WR)

/-- `rect_value(l, r)`: the magnitude `max(|l|, |r|)`, computed in `WR+1` bits (40_rectifier.md R151). -/
def rectValue (c : Config) (l r : Int) : Nat :=
  let al := if l < 0 then -l else l
  let ar := if r < 0 then -r else r
  storeU (c.WR + 1) (max al ar).toNat

/-- The item RECT drives on the internal stream `rect_out` / `box_in` (20_memory.md R93): the payload `mag`, `WR+1` bits
(30_encoding.md R122), and `box_in.first := 1 ; box_in.last := 1` (40_rectifier.md R150, 20_memory.md R75). -/
def boxInItem (s : State) : Item := ⟨rectValue s.cfg (rectL s) (rectR s), true, true⟩

/-- `box_in.x := zext_WB(mag)`, read as signed (40_rectifier.md R150, R155). BOX ignores the item's framing (20_memory.md
R75). -/
def boxInX (s : State) : Int := readS s.cfg.WB (storeU s.cfg.WB (boxInItem s).payload)

/-- `box.sum >> k`, the arithmetic shift (00_scope.md R10, 41_boxcar.md R176). -/
def boxAverage (s : State) : Int := s.box.sum / 2 ^ s.cfg.k

/-! ### Operands of PEAK -/

/-- `peak_in.x` (R124). -/
def peakX (s : State) : Nat := (inItem .peakIn s).payload

/-- `peak_int := peak.peak >> point` (42_peak.md R201). -/
def peakInt (s : State) : Nat := s.peak.peak >>> s.cfg.point

/-! ### Operands of BAR and QNT -/

/-- `bar_in.data` (R125). -/
def barInData (s : State) : Nat := (inItem .barIn s).payload

/-- The payload and framing BAR drives on `bar_q` (30_encoding.md R126). -/
structure BarItem where
  data : Nat
  lo : Nat
  hi : Nat
  mul : Nat
  first : Bool
  last : Bool
  deriving DecidableEq, Repr

/-- `bar_q` in the coming tick (44_bargraph.md R261). While BAR is idle "the table reads are not made" and it is driven
as all zeros, as R261 allows (log 6). -/
def barQ (s : State) : BarItem :=
  if s.bar.idx < s.cfg.N then
    { data := s.bar.data
      lo := s.cfg.thrAt s.bar.idx
      hi := s.cfg.thrAt (s.bar.idx + 1)
      mul := s.cfg.mulAt s.bar.idx
      first := s.bar.idx == 0
      last := s.bar.idx == s.cfg.N - 1 }
  else ⟨0, 0, 0, 0, false, false⟩

/-- `((mm * md) >> shift) mod 2^OW`: exact product, floor shift, low `OW` bits kept (43_quantizer.md R236). -/
def interpolate (c : Config) (mm md : Nat) : Nat := storeU c.OW ((mm * md) >>> c.shift)

/-! ### Operands of KEY -/

/-- `key_in.snap` (R128). -/
def keySnap (s : State) : Nat := (inItem .keyIn s).payload

/-- `diff & -diff` on `w` bits (45_key_serializer.md R294). -/
def lowestSet (w diff : Nat) : Nat := diff &&& negate w diff

/-! ### Operands of UIK and UIO -/

/-- `ui_key_in.snap` (R130). -/
def uiSnap (s : State) : Nat := (inItem .uiKeyIn s).payload

/-- `on := ui_key_in.snap & ~ui.prev_keys`, on `KU` bits (46_selection.md R321). -/
def uiOn (s : State) : Nat := uiSnap s &&& complement s.cfg.KU s.ui.prevKeys

/-- The LED frame offered on `ui_pt_in` (R131), its fields and framing as they stand. -/
def ptFrame (s : State) : Frame :=
  let i := inItem .uiPtIn s
  { addr := field i.payload 0 s.cfg.AW
    red := field i.payload s.cfg.AW s.cfg.CW
    green := field i.payload (s.cfg.AW + s.cfg.CW) s.cfg.CW
    blue := field i.payload (s.cfg.AW + 2 * s.cfg.CW) s.cfg.CW
    first := i.first
    last := i.last }

/-- `render_frame(L)`, for the sweep step `L = ui.led` (46_selection.md R330). -/
def renderFrame (s : State) : Frame :=
  { addr := storeU s.cfg.AW s.ui.led
    red := if s.ui.led = s.ui.channel then storeU s.cfg.CW s.cfg.bright else 0
    green := if s.ui.led = s.ui.edit then storeU s.cfg.CW s.cfg.bright else 0
    blue := 0
    first := s.ui.led == 0
    last := s.ui.led == s.cfg.leds - 1 }

/-- The level output `ui_sel := ui.channel`, in `CHW` bits (46_selection.md R340). -/
def uiSel (s : State) : Nat := storeU s.cfg.CHW s.ui.channel

end Sys2Proof.Machine
end

