-- ==== Sys2Proof/Machine/Flags.lean ====
section
/-! DEFINITION. Flags: the handshake signals of the CORE's streams, and the condition signals of its units, settled from
the registers and the inputs of the coming tick in the dependency order of 20_memory.md R77. -/

namespace Sys2Proof.Machine

/-- `slot_free := ¬ov ∨ out.ready`, the output slot of 20_memory.md R79. -/
def slotFree (ov ready : Bool) : Bool := !ov || ready

/-! ### BOX and RECT -/

/-- `box.in_ready := (box.state = IDLE)` (41_boxcar.md R171). -/
def boxInReady (s : State) : Bool := s.box.state == boxIdle

/-- `box_out.valid := (box.state = WAIT)` (41_boxcar.md R171). -/
def boxOutValid (s : State) : Bool := s.box.state == boxWait

/-- `rect_in.ready := box.in_ready` (40_rectifier.md R150). -/
def rectInReady (s : State) : Bool := boxInReady s

/-- `box_in.valid := rect_in.valid` (40_rectifier.md R150). -/
def boxInValid (s : State) : Bool := inValid .rectIn s

/-- `xfer(box_in)` of the internal stream from RECT to BOX (20_memory.md R71, R93). -/
def boxInXfer (s : State) : Bool := boxInValid s && boxInReady s

/-! ### PEAK -/

/-- `peak.slot_free` (42_peak.md R201). -/
def peakSlotFree (s : State) : Bool := slotFree s.peak.ov (outReady .peakOut s)

/-- `peak_in.ready := peak.slot_free` (42_peak.md R201). -/
def peakInReady (s : State) : Bool := peakSlotFree s

/-- `peak.accept` (42_peak.md R201). -/
def peakAccept (s : State) : Bool := inValid .peakIn s && peakInReady s

/-- `peak.attack := peak_in.x > peak_int` (42_peak.md R201). -/
def peakAttacks (s : State) : Bool := decide (peakInt s < peakX s)

/-- `peak.cnt_last := (peak.count = n - 1)` (42_peak.md R201). -/
def peakCntLast (s : State) : Bool := s.peak.count == s.cfg.n - 1

/-! ### QNT and BAR -/

/-- `qnt.slot_free` (43_quantizer.md R231). -/
def qntSlotFree (s : State) : Bool := slotFree s.qnt.ov (outReady .qntOut s)

/-- `qnt.in_ready := (qnt.state = IDLE) ∧ qnt.slot_free` (43_quantizer.md R231). -/
def qntInReady (s : State) : Bool := s.qnt.state == qntIdle && qntSlotFree s

/-- `bar_q.valid := (bar.idx < N)` (44_bargraph.md R261). -/
def barQValid (s : State) : Bool := decide (s.bar.idx < s.cfg.N)

/-- `bar_q.ready := qnt.in_ready` (44_bargraph.md R261). -/
def barQReady (s : State) : Bool := qntInReady s

/-- `bar_in.ready := (bar.idx = N)` (44_bargraph.md R261). -/
def barInReady (s : State) : Bool := s.bar.idx == s.cfg.N

/-- `qnt.accept` (43_quantizer.md R231). -/
def qntAccept (s : State) : Bool := barQValid s && qntInReady s

/-- `qnt.ge_hi := bar_q.data >= bar_q.hi` (43_quantizer.md R231). -/
def qntGeHi (s : State) : Bool := decide ((barQ s).hi ≤ (barQ s).data)

/-- `qnt.le_lo := bar_q.data <= bar_q.lo` (43_quantizer.md R231). -/
def qntLeLo (s : State) : Bool := decide ((barQ s).data ≤ (barQ s).lo)

/-- `qnt.mul_zero := (bar_q.mul = 0)` (43_quantizer.md R231). -/
def qntMulZero (s : State) : Bool := (barQ s).mul == 0

/-! ### KEY -/

/-- `key.in_ready := (key.state = IDLE)` (45_key_serializer.md R291). -/
def keyInReady (s : State) : Bool := s.key.state == keyIdle

/-- `key_out.valid := (key.state = SEND)` (45_key_serializer.md R291). -/
def keyOutValid (s : State) : Bool := s.key.state == keySend

/-- `key_out.level := (key.mask & key.prev) ≠ 0` (45_key_serializer.md R291). -/
def keyOutLevel (s : State) : Bool := s.key.mask &&& s.key.prev != 0

/-- `key_out.last := (key.diff = key.mask)` (45_key_serializer.md R291). -/
def keyOutLast (s : State) : Bool := s.key.diff == s.key.mask

/-! ### UIK and UIO -/

/-- `ui.key_ready := (ui.led = 0) ∧ ¬ui.update` (46_selection.md R321). -/
def uiKeyReady (s : State) : Bool := s.ui.led == 0 && !s.ui.update

/-- `uik.accept` (46_selection.md R321). -/
def uikAccept (s : State) : Bool := inValid .uiKeyIn s && uiKeyReady s

/-- `ui.render_req := ui.update ∨ (ui.led ≠ 0)` (46_selection.md R322). -/
def uiRenderReq (s : State) : Bool := s.ui.update || s.ui.led != 0

/-- `ui.slot_free` (46_selection.md R322). -/
def uiSlotFree (s : State) : Bool := slotFree s.ui.ov (outReady .uiOut s)

/-- `ui.pt_ready := ui.slot_free ∧ ¬ui.render_req` (46_selection.md R322). -/
def uiPtReady (s : State) : Bool := uiSlotFree s && !uiRenderReq s

/-- `ui.led = leds - 1`, condition bit `c2` of UIO (30_encoding.md R119). -/
def uiLedLast (s : State) : Bool := s.ui.led == s.cfg.leds - 1

/-! ### The streams at the CORE's ports -/

/-- `p.ready` of an input port (R150, R201, R261, R291, R321, R322). -/
def inReady (p : InPort) (s : State) : Bool :=
  match p with
  | .rectIn => rectInReady s
  | .peakIn => peakInReady s
  | .barIn => barInReady s
  | .keyIn => keyInReady s
  | .uiKeyIn => uiKeyReady s
  | .uiPtIn => uiPtReady s

/-- `p.valid` of an output port (R171, R201, R231, R291, R322). -/
def outValid (p : OutPort) (s : State) : Bool :=
  match p with
  | .boxOut => boxOutValid s
  | .peakOut => s.peak.ov
  | .qntOut => s.qnt.ov
  | .keyOut => keyOutValid s
  | .uiOut => s.ui.ov

/-- The item an output port presents (R171, R201, R231, R291, R322), packed as R120-R131 lay it out. Items of the
single-item streams have `first = last = 1` (20_memory.md R75). -/
def outItem (p : OutPort) (s : State) : Item :=
  match p with
  | .boxOut => ⟨patternS s.cfg.WB s.box.out, true, true⟩
  | .peakOut => ⟨storeU s.cfg.WP s.peak.y, true, true⟩
  | .qntOut => ⟨storeU s.cfg.OW s.qnt.v, s.qnt.f, s.qnt.l⟩
  | .keyOut => ⟨packEvent s.cfg s.key.mask (keyOutLevel s), s.key.first, keyOutLast s⟩
  | .uiOut =>
    ⟨packLed s.cfg s.ui.frame.addr s.ui.frame.red s.ui.frame.green s.ui.frame.blue, s.ui.frame.first, s.ui.frame.last⟩

/-- `xfer(p)` of an input port: "a transfer … occurs on exactly the tick where both" `valid` and `ready` are true
(20_memory.md R71). -/
def inXfer (p : InPort) (s : State) : Bool := inValid p s && inReady p s

/-- `xfer(p)` of an output port (20_memory.md R71). -/
def outXfer (p : OutPort) (s : State) : Bool := outValid p s && outReady p s

end Sys2Proof.Machine
end

