-- ==== Sys2Proof/Machine/Ops.lean ====
section
/-! DEFINITION. The shared operations: writing a unit's registers, the ring buffer, the transfers at the ports, taking a
fault, the return from one by reset, and the boot. -/

namespace Sys2Proof.Machine

/-! ### Writing one part of the state -/

/-- Write BOX's registers. -/
def State.setBox (s : State) (b : Box) : State := { s with box := b }

/-- Write PEAK's registers. -/
def State.setPeak (s : State) (p : Peak) : State := { s with peak := p }

/-- Write QNT's registers. -/
def State.setQnt (s : State) (q : Qnt) : State := { s with qnt := q }

/-- Write BAR's registers. -/
def State.setBar (s : State) (b : Bar) : State := { s with bar := b }

/-- Write KEY's registers. -/
def State.setKey (s : State) (k : Key) : State := { s with key := k }

/-- Write UI's registers. -/
def State.setUi (s : State) (u : Ui) : State := { s with ui := u }

/-- Write the fault register. -/
def State.setFault (s : State) (f : Option FaultRecord) : State := { s with fault := f }

/-- Write the environment. -/
def State.setEnv (s : State) (e : Env) : State := { s with env := e }

/-! ### The ring buffer (20_memory.md R81) -/

/-- The word at an index: the listed one, or what an unlisted word reads as. -/
def Memory.read : Memory → Nat → Int
  | [], _ => Memory.unlisted
  | (b, v) :: rest, a => if a = b then v else Memory.read rest a

/-- Write the word at an index, keeping the canonical form: writing the unlisted value removes the entry. -/
def Memory.write : Memory → Nat → Int → Memory
  | [], a, v => if v = Memory.unlisted then [] else [(a, v)]
  | (b, w) :: rest, a, v =>
    if a < b then (if v = Memory.unlisted then (b, w) :: rest else (a, v) :: (b, w) :: rest)
    else if a = b then (if v = Memory.unlisted then rest else (a, v) :: rest)
    else (b, w) :: Memory.write rest a v

/-- The sum of the words `0..D-1` (10_state.md R25). -/
def Memory.total (m : Memory) (D : Nat) : Int := ((List.range D).map (Memory.read m)).sum

/-- `MemRead(addr, 1)`: one word of the ring buffer; `none` outside `0..D-1`, an index that does not exist (R81). -/
def memRead (s : State) (a : Nat) : Option Int := if a < s.cfg.D then some (s.box.buf.read a) else none

/-- `MemWrite(addr, 1, v)`: the ring buffer after one word, `WB` bits signed, is written; `none` outside `0..D-1`. -/
def memWrite (s : State) (a : Nat) (v : Int) : Option Memory :=
  if a < s.cfg.D then some (s.box.buf.write a (storeS s.cfg.WB v)) else none

/-! ### Transfers at the CORE's ports (20_memory.md R71, R86) -/

/-- A transfer on an input port: "on a transfer tick the producer advances" (R86), so the head of the port's offer queue
leaves it. A raw trace advances by itself, one entry a tick. Without `xfer(p)` nothing moves. -/
def takeIn (p : InPort) (s : State) : State :=
  if inXfer p s && s.env.trace.isEmpty then
    s.setEnv { s.env with queues := s.env.queues.set p (s.env.queues.get p).tail }
  else s

/-- A transfer on an output port: "the consumer takes `p.payload`, `p.first` and `p.last` as they stand in that tick"
(R71). Without `xfer(p)` nothing moves. -/
def deliver (p : OutPort) (s : State) : State :=
  if outXfer p s then
    s.setEnv { s.env with taken := s.env.taken.set p (s.env.taken.get p ++ [⟨s.tick, outItem p s⟩]) }
  else s

/-! ### Taking a fault, and the return from one (60_exceptions.md R375, R376) -/

/-- The code of a fault (R370). -/
def FaultRecord.code : FaultRecord → Nat
  | .envProtocol _ _ => 1
  | .illegalState _ _ => 2
  | .assertion _ _ => 3

/-- Fault entry: "no '<-' write of tick t takes effect", `fault` records the code with its info, and nothing else is
saved (R375). `s` is the state at the start of the faulting tick (R379). -/
def takeFault (f : FaultRecord) (s : State) : State := s.setFault (some f)

/-- The reset event (R400), the only return from a fault (R376): every register of the CORE, its fault register and its
monitors at their reset values, tick 0 next. The configuration stays, and so does the environment, which is outside
the CORE (log 16). -/
def applyReset (s : State) : State := (State.resetWith s.cfg).setEnv s.env

/-- Boot (R405, R406): the configuration is checked, and reset is applied to one that passes; one that fails is refused
with the names of the failed checks. -/
def boot (c : Config) : Result :=
  if c.wellFormed then .next (State.resetWith c) else .refused (.configuration c.failedChecks)

end Sys2Proof.Machine
end

