-- ==== Sys2Proof/Machine/Selector.lean ====
section
/-! DEFINITION. The selector word each unit forms in a tick (30_encoding.md R110-R119): the CORE's fetch. -/

namespace Sys2Proof.Machine

/-- The state field of BAR (R116): 1 when idle, 0 when busy; 2 for `bar.idx > N`, so that the word matches no row (R133;
log 3). -/
def barSt (s : State) : BitVec 4 :=
  if s.bar.idx = s.cfg.N then 1 else if s.bar.idx < s.cfg.N then 0 else 2

/-- The selector word of a unit in the coming tick (R110). "Condition bits a unit does not define are formed as 0". -/
def selector (u : UnitId) (s : State) : Word :=
  match u with
  -- R112
  | .rect => mkSel u.code 0 (inValid .rectIn s) (rectInReady s) false false
  -- R113
  | .box => mkSel u.code (s.box.state.setWidth 4) (boxInValid s) (outReady .boxOut s) false false
  -- R114
  | .peak => mkSel u.code 0 (peakAccept s) (peakAttacks s) (peakCntLast s) (outReady .peakOut s)
  -- R115
  | .qnt => mkSel u.code (s.qnt.state.setWidth 4) (qntAccept s) (qntGeHi s) (qntLeLo s) (qntMulZero s)
  -- R116
  | .bar => mkSel u.code (barSt s) (inValid .barIn s) (barQReady s) false false
  -- R117
  | .key => mkSel u.code (s.key.state.setWidth 4) (inValid .keyIn s) (s.key.diff == 0) (outReady .keyOut s) false
  -- R118
  | .uik =>
    mkSel u.code (BitVec.ofBool s.ui.editMode |>.setWidth 4) (uikAccept s) ((uiOn s).testBit s.cfg.swBit)
      ((uiOn s).testBit s.cfg.aBit) ((uiSnap s).testBit s.cfg.bBit)
  -- R119
  | .uio =>
    mkSel u.code (BitVec.ofBool (uiRenderReq s) |>.setWidth 4) (uiSlotFree s) (inValid .uiPtIn s) (uiLedLast s)
      (outReady .uiOut s)

/-- The operation a unit executes in the coming tick; `none` where its selector word is illegal (R110, R133). -/
def selected (u : UnitId) (s : State) : Option Instr := decode (selector u s)

end Sys2Proof.Machine
end

