-- ==== Sys2Proof/Machine/Place.lean ====
section
/-! DEFINITION. Making a unit form a given selector word in the coming tick.

The CORE fetches no stored word: each unit forms its selector word from its registers and the signals of the tick
(30_encoding.md R110). To run a given word next, these definitions set exactly the registers and the inputs of the
coming tick that the word's bits are formed from (log 13). -/

namespace Sys2Proof.Machine

/-- The inputs of the coming tick given outright, as the next entry of the raw trace. -/
def placeInputs (s : State) (t : TickIn) : State := s.setEnv { s.env with trace := t :: s.env.trace.tail }

/-- Offer `payload` (framing kept), or offer nothing, on an input port in the coming tick. -/
def placeOffer (s : State) (p : InPort) (valid : Bool) (payload : Nat) : State :=
  let t := rawInputs s
  placeInputs s
    { t with offers := t.offers.set p ⟨valid, { (t.offers.get p).item with payload := payload }⟩ }

/-- Offer what the port carries, or nothing, on an input port in the coming tick. -/
def placeValid (s : State) (p : InPort) (valid : Bool) : State :=
  placeOffer s p valid ((rawInputs s).offers.get p).item.payload

/-- The `ready` of an output port in the coming tick. -/
def placeReady (s : State) (p : OutPort) (ready : Bool) : State :=
  let t := rawInputs s
  placeInputs s { t with readys := t.readys.set p ready }

/-- RECT (R112): `c0 = rect_in.valid`, `c1 = box.in_ready`. -/
def placeRect (s : State) (w : Word) : State :=
  placeValid (s.setBox { s.box with state := if w.cond 1 then boxIdle else boxWait }) .rectIn (w.cond 0)

/-- BOX (R113): `st = box.state`, `c0 = box_in.valid`, `c1 = box_out.ready`. -/
def placeBox (s : State) (w : Word) : State :=
  placeReady (placeValid (s.setBox { s.box with state := w.stField.setWidth 3 }) .rectIn (w.cond 0)) .boxOut (w.cond 1)

/-- PEAK (R114): `c0 = peak.accept`, `c1 = peak.attack`, `c2 = peak.cnt_last`, `c3 = peak_out.ready`. -/
def placePeak (s : State) (w : Word) : State :=
  let s₁ := s.setPeak
    { s.peak with
      peak := 0
      count := if w.cond 2 then s.cfg.n - 1 else 0
      ov := s.peak.ov && !w.cond 0 }
  placeReady (placeOffer s₁ .peakIn (w.cond 0) (w.cond 1).toNat) .peakOut (w.cond 3)

/-- Whether segment `i` with sample `d` gives the condition bits `c1 = qnt.ge_hi`, `c2 = qnt.le_lo`,
`c3 = qnt.mul_zero` of a word (R115). -/
def segmentFits (c : Config) (w : Word) (i d : Nat) : Bool :=
  decide (c.thrAt (i + 1) ≤ d) == w.cond 1 && decide (d ≤ c.thrAt i) == w.cond 2 && (c.mulAt i == 0) == w.cond 3

/-- A segment and a sample that give a word's condition bits, if the configured tables have one. -/
def findSegment (c : Config) (w : Word) : Option (Nat × Nat) :=
  ((List.range c.N).flatMap fun i => [(i, c.thrAt i), (i, c.thrAt i + 1), (i, c.thrAt (i + 1))]).find?
    fun p => segmentFits c w p.1 p.2

/-- BAR presents an item that gives QNT the condition bits `c1`, `c2`, `c3` of a word. Where no configured segment does
(`mul = 0`, which the configuration check refuses but R235 defines "for QNT on its own"), a one-segment table that
does replaces the configured tables. -/
def placeSegment (s : State) (w : Word) : State :=
  match findSegment s.cfg w with
  | some (i, d) => s.setBar { idx := i, data := d }
  | none =>
    let d := if w.cond 2 && !w.cond 1 then 0 else 1
    let lo := if w.cond 1 && w.cond 2 then 1 else 0
    let hi := if w.cond 1 || w.cond 2 then 1 else 2
    { s with
      cfg := { s.cfg with N := 1, thr := [lo, hi], mul := [if w.cond 3 then 0 else 1] }
      bar := { idx := 0, data := d } }

/-- QNT (R115): `st = qnt.state`, `c0 = qnt.accept`. An item is accepted when the slot is free and not accepted when it
is full and stalled; in `MUL` the slot is empty (10_state.md R29). -/
def placeQnt (s : State) (w : Word) : State :=
  let s₁ := placeSegment s w
  let st : BitVec 1 := w.stField.setWidth 1
  placeReady
    (s₁.setQnt { s₁.qnt with state := st, ov := st == qntIdle && !w.cond 0 })
    .qntOut (w.cond 0)

/-- BAR (R116): `st` says idle or busy, `c0 = bar_in.valid`, `c1 = bar_q.ready`. -/
def placeBar (s : State) (w : Word) : State :=
  let s₁ := s.setBar { s.bar with idx := if w.stField = 0 then 0 else if w.stField = 1 then s.cfg.N else s.cfg.N + 1 }
  let s₂ := s₁.setQnt { s₁.qnt with state := qntIdle, ov := !w.cond 1 }
  placeReady (placeValid s₂ .barIn (w.cond 0)) .qntOut (w.cond 1)

/-- KEY (R117): `st = key.state`, `c0 = key_in.valid`, `c1 = (key.diff = 0)`, `c2 = key_out.ready`. In `SEND`, whose rows
ignore `c1`, the bit being reported is set (10_state.md R32). -/
def placeKey (s : State) (w : Word) : State :=
  let st : BitVec 2 := w.stField.setWidth 2
  let s₁ := s.setKey
    { s.key with
      state := st
      diff := if w.cond 1 && st != keySend then 0 else 1
      mask := if st = keySend then 1 else s.key.mask }
  placeReady (placeValid s₁ .keyIn (w.cond 0)) .keyOut (w.cond 2)

/-- UIK (R118): `st = ui.edit_mode`, `c0 = uik.accept`, `c1 = on[SW_BIT]`, `c2 = on[A_BIT]`, `c3 = snap[B_BIT]`. -/
def placeUik (s : State) (w : Word) : State :=
  let snap :=
    (w.cond 1).toNat <<< s.cfg.swBit + (w.cond 2).toNat <<< s.cfg.aBit + (w.cond 3).toNat <<< s.cfg.bBit
  let s₁ := s.setUi
    { s.ui with editMode := w.stField.getLsbD 0, prevKeys := 0, led := 0, update := false }
  placeOffer s₁ .uiKeyIn (w.cond 0) snap

/-- UIO (R119): `st = ui.render_req`, `c0 = ui.slot_free`, `c1 = ui_pt_in.valid`, `c2 = (ui.led = leds - 1)`,
`c3 = ui_out.ready`. -/
def placeUio (s : State) (w : Word) : State :=
  let sweep := w.stField.getLsbD 0
  let s₁ := s.setUi
    { s.ui with
      update := sweep
      led := if sweep && w.cond 2 then s.cfg.leds - 1 else 0
      ov := !w.cond 0 }
  placeReady (placeValid s₁ .uiPtIn (w.cond 1)) .uiOut (w.cond 3 && w.cond 0)

/-- The state in which the unit a word names forms that word in the coming tick. A word whose unit field names no unit
changes nothing. -/
def placeSelector (s : State) (w : Word) : State :=
  match UnitId.all.find? (fun u => u.code == w.unitField) with
  | some .rect => placeRect s w
  | some .box => placeBox s w
  | some .peak => placePeak s w
  | some .qnt => placeQnt s w
  | some .bar => placeBar s w
  | some .key => placeKey s w
  | some .uik => placeUik s w
  | some .uio => placeUio s w
  | none => s

/-- The machine ready to run the coming tick with that word: no fault halts it, and no offer is pending that the inputs
given outright could break (60_exceptions.md R371). -/
def placeWord (s : State) (w : Word) : State :=
  let t := placeSelector s w
  { t with fault := none, mon := .const ⟨false, .zero⟩ }

end Sys2Proof.Machine
end

