-- ==== Sys2Proof/Machine/Assertions.lean ====
section
/-! DEFINITION. The run-time checks of 60_exceptions.md R373: the invariants of 10_state.md R25, R27, R29, R32 and R34,
each as a condition on the registers. -/

namespace Sys2Proof.Machine

/-- R25: "In every reachable state except `ACCUM`, `box.sum` equals the sum of the words of `box.buf`. In state `ACCUM`,
`box.sum + box.delta` equals that sum." -/
def okBoxSum (s : State) : Bool :=
  (if s.box.state = boxAccum then s.box.sum + s.box.delta else s.box.sum) == s.box.buf.total s.cfg.D

/-- R27: "`peak.count < n` and `peak.peak <= (2^WP - 1) * 2^point`". -/
def okPeak (s : State) : Bool :=
  decide (s.peak.count < s.cfg.n) && decide (s.peak.peak ≤ (2 ^ s.cfg.WP - 1) * 2 ^ s.cfg.point)

/-- R29: "`qnt.state = MUL ⇒ qnt.ov = 0`". -/
def okQntSlot (s : State) : Bool := !(s.qnt.state == qntMul && s.qnt.ov)

/-- R32: "`key.state = SEND ⇒ popcount(key.mask) = 1 ∧ (key.mask & key.diff) = key.mask`". -/
def okKeyMask (s : State) : Bool :=
  !(s.key.state == keySend) || (popcount s.cfg.K s.key.mask == 1 && s.key.mask &&& s.key.diff == s.key.mask)

/-- R34 for the registers only UIK writes: "`ui.channel < chans`, `ui.edit < chans`". -/
def okUiIndices (s : State) : Bool := decide (s.ui.channel < s.cfg.chans) && decide (s.ui.edit < s.cfg.chans)

/-- R34 for the register only UIO writes: "`ui.led < leds`". -/
def okUiLed (s : State) : Bool := decide (s.ui.led < s.cfg.leds)

/-- The first check that fails, in the order of the units' codes (log 8), with the info `(unit, rule)` of R373. DESIGN
CHOICE (log 20): no rule says which unit is named when R34 fails, whose registers UIK and UIO hold together; the model
names the unit that writes the register, UIK for `ui.channel` and `ui.edit`, UIO for `ui.led`. -/
def failedAssertion (s : State) : Option FaultRecord :=
  if !okBoxSum s then some (.assertion .box 25)
  else if !okPeak s then some (.assertion .peak 27)
  else if !okQntSlot s then some (.assertion .qnt 29)
  else if !okKeyMask s then some (.assertion .key 32)
  else if !okUiIndices s then some (.assertion .uik 34)
  else if !okUiLed s then some (.assertion .uio 34)
  else none

end Sys2Proof.Machine
end

