-- ==== Sys2Proof/Machine/BarGraph.lean ====
section
/-! DEFINITION. BAR: the bar-graph sequencer (44_bargraph.md). -/

namespace Sys2Proof.Machine

/-- `BAR.PRESENT` (R264): the quantizer accepts segment `bar.idx`. -/
def execBarPresent (s : State) : Result :=
  .next (s.setBar { s.bar with idx := storeU s.cfg.idxWidth (s.bar.idx + 1) })

/-- `BAR.STALL` (R265): nothing changes; the same item is presented again. -/
def execBarStall (s : State) : Result := .next s

/-- `BAR.ACCEPT` (R262): "On accepting one input sample". -/
def execBarAccept (s : State) : Result := .next ((takeIn .barIn s).setBar { idx := 0, data := barInData s })

/-- `BAR.WAITIN` (R263): nothing changes. -/
def execBarWaitin (s : State) : Result := .next s

end Sys2Proof.Machine
end

