-- ==== Sys2Proof/Machine/Boxcar.lean ====
section
/-! DEFINITION. BOX: the boxcar moving-average filter (41_boxcar.md). -/

namespace Sys2Proof.Machine

/-- `BOX.WAITIN` (R172): nothing changes. -/
def execBoxWaitin (s : State) : Result := .next s

/-- `BOX.ACCEPT` (R173): "on arrival latch new sample, read old sample at `addr`". -/
def execBoxAccept (s : State) : Result :=
  match memRead s s.box.addr with
  | some old => .next (s.setBox { s.box with newSample := boxInX s, oldSample := old, state := boxWrite })
  | none => .fault (.ringIndex s.box.addr)

/-- `BOX.WRITE` (R174): "compute `delta = new - old`, write new sample at `addr`". -/
def execBoxWrite (s : State) : Result :=
  match memWrite s s.box.addr s.box.newSample with
  | some buf =>
    .next (s.setBox
      { s.box with delta := storeS (s.cfg.WB + 1) (s.box.newSample - s.box.oldSample), buf := buf, state := boxAccum })
  | none => .fault (.ringIndex s.box.addr)

/-- `BOX.ACCUM` (R175): "`sum += delta`; `addr = (addr+1) mod D`". -/
def execBoxAccum (s : State) : Result :=
  .next (s.setBox
    { s.box with
      sum := storeS s.cfg.S (s.box.sum + s.box.delta), addr := (s.box.addr + 1) % s.cfg.D, state := boxEmit })

/-- `BOX.EMIT` (R176): "assert output = `sum >> log2(D)`". -/
def execBoxEmit (s : State) : Result :=
  .next (s.setBox { s.box with out := storeS s.cfg.WB (boxAverage s), state := boxWait })

/-- `BOX.HOLD` (R177): nothing changes; the same average is presented again. -/
def execBoxHold (s : State) : Result := .next s

/-- `BOX.DRAIN` (R178): the average transfers; "re-arm input, return to `IDLE`". -/
def execBoxDrain (s : State) : Result := .next ((deliver .boxOut s).setBox { s.box with state := boxIdle })

end Sys2Proof.Machine
end

