-- ==== Sys2Proof/Machine/KeySerializer.lean ====
section
/-! DEFINITION. KEY: the key edge-to-event serializer (45_key_serializer.md). -/

namespace Sys2Proof.Machine

/-- `KEY.WAITIN` (R293): nothing changes. -/
def execKeyWaitin (s : State) : Result := .next s

/-- `KEY.ACCEPT` (R292): "`diff := state XOR new`; `state := new`". -/
def execKeyAccept (s : State) : Result :=
  .next ((takeIn .keyIn s).setKey
    { s.key with
      diff := storeU s.cfg.K (s.key.prev ^^^ keySnap s), prev := keySnap s, first := true, state := keyCalc })

/-- `KEY.DONE` (R297): "if `diff == 0`, return to `IDLE`". -/
def execKeyDone (s : State) : Result := .next (s.setKey { s.key with state := keyIdle })

/-- `KEY.ISOLATE` (R294): "isolate the lowest set bit: `mask := diff & -diff`". -/
def execKeyIsolate (s : State) : Result :=
  .next (s.setKey { s.key with mask := lowestSet s.cfg.K s.key.diff, state := keySend })

/-- `KEY.SENDWAIT` (R296): nothing changes; the same event is presented again. -/
def execKeySendwait (s : State) : Result := .next s

/-- `KEY.SEND` (R295): the event transfers; "then `diff &= ~mask`; loop to `CALC`". -/
def execKeySend (s : State) : Result :=
  .next ((deliver .keyOut s).setKey
    { s.key with diff := s.key.diff &&& complement s.cfg.K s.key.mask, first := false, state := keyCalc })

end Sys2Proof.Machine
end

