-- ==== Sys2Proof/Machine/PeakHold.lean ====
section
/-! DEFINITION. PEAK: the peak envelope follower (42_peak.md). -/

namespace Sys2Proof.Machine

/-- An accepted sample: it transfers on `peak_in`, the slot's old item leaves if its consumer takes it in this tick, and
the slot is loaded with the new output (20_memory.md R79), beside the envelope and the counter. -/
def peakLoad (s : State) (y peak count : Nat) : State :=
  (deliver .peakOut (takeIn .peakIn s)).setPeak { peak := peak, count := count, ov := true, y := y }

/-- `PEAK.ATTACK` (R202): a new peak; it overrides any decay. -/
def execPeakAttack (s : State) : Result :=
  .next (peakLoad s (peakX s) (storeU (s.cfg.WP + s.cfg.point) (peakX s <<< s.cfg.point)) 0)

/-- `PEAK.HOLD` (R203): no new peak, no decay due. -/
def execPeakHold (s : State) : Result :=
  .next (peakLoad s (storeU s.cfg.WP (peakInt s)) s.peak.peak (storeU s.cfg.countWidth (s.peak.count + 1)))

/-- `PEAK.DECAY` (R204): the output is the pre-decay integer peak; `peak -= (peak >> point)`; the counter wraps. -/
def execPeakDecay (s : State) : Result :=
  .next (peakLoad s (storeU s.cfg.WP (peakInt s)) (s.peak.peak - peakInt s) 0)

/-- `PEAK.KEEP` (R205): nothing changes. -/
def execPeakKeep (s : State) : Result := .next s

/-- `PEAK.DRAIN` (R206): the slot's item, if any, transfers. -/
def execPeakDrain (s : State) : Result := .next ((deliver .peakOut s).setPeak { s.peak with ov := false })

end Sys2Proof.Machine
end

