-- ==== Sys2Proof/Machine/Quantizer.lean ====
section
/-! DEFINITION. QNT: the segment quantizer (43_quantizer.md). -/

namespace Sys2Proof.Machine

/-- "Emit immediately": the slot's old item leaves if its consumer takes it in this tick, and the slot is loaded with the
value and the framing of the accepted item (20_memory.md R79). -/
def qntLoad (s : State) (v : Nat) : State :=
  (deliver .qntOut s).setQnt { s.qnt with v := v, f := (barQ s).first, l := (barQ s).last, ov := true }

/-- `QNT.SATHI` (R232): "If `data >= hi`: emit `output_max` immediately". -/
def execQntSathi (s : State) : Result := .next (qntLoad s s.cfg.outputMax)

/-- `QNT.SATLO` (R233): "Elif `data <= lo`: emit `0` immediately". -/
def execQntSatlo (s : State) : Result := .next (qntLoad s 0)

/-- `QNT.DEFER` (R234): the operands wait one tick in `MUL`; the slot, free in this tick, is empty after it. -/
def execQntDefer (s : State) : Result :=
  .next ((deliver .qntOut s).setQnt
    { s.qnt with
      md := storeU s.cfg.IW ((barQ s).data - (barQ s).lo), mm := storeU s.cfg.MW (barQ s).mul
      mf := (barQ s).first, ml := (barQ s).last, state := qntMul, ov := false })

/-- `QNT.HALF` (R235): "Else (`mul == 0` …): emit `output_max / 2` as a degenerate fallback". -/
def execQntHalf (s : State) : Result := .next (qntLoad s (s.cfg.outputMax >>> 1))

/-- `QNT.MUL` (R236): "then emit `(mul * (data - lo)) >> shift`". A full slot, which no reachable state has here, raises
`F_ASSERT` with `(QNT, R236)` (60_exceptions.md R373). -/
def execQntMul (s : State) : Result :=
  if s.qnt.ov then .next (takeFault (.assertion .qnt 236) s)
  else
    .next (s.setQnt
      { s.qnt with
        v := interpolate s.cfg s.qnt.mm s.qnt.md, f := s.qnt.mf, l := s.qnt.ml, ov := true, state := qntIdle })

/-- `QNT.NOACC` (R237): no accept; the slot drains if its consumer is ready. -/
def execQntNoacc (s : State) : Result :=
  .next ((deliver .qntOut s).setQnt { s.qnt with ov := s.qnt.ov && !outReady .qntOut s })

end Sys2Proof.Machine
end

