-- ==== Sys2Proof/Machine/Rect.lean ====
section
/-! DEFINITION. RECT: the rectifier (40_rectifier.md). RECT has no registers. -/

namespace Sys2Proof.Machine

/-- `RECT.XFER` (R152): the pair transfers on `rect_in`, and in the same tick on `box_in`, where BOX.ACCEPT latches it. -/
def execRectXfer (s : State) : Result := .next (takeIn .rectIn s)

/-- `RECT.STALL` (R153): an offered pair waits; nothing is written. -/
def execRectStall (s : State) : Result := .next s

/-- `RECT.NONE` (R154): nothing offered, nothing happens. -/
def execRectNone (s : State) : Result := .next s

end Sys2Proof.Machine
end

