-- ==== Sys2Proof/Machine/UiKeys.lean ====
section
/-! DEFINITION. UIK: the key-handling half of the selection controller (46_selection.md). Every operation that accepts a
snapshot also writes `ui.prev_keys`. -/

namespace Sys2Proof.Machine

/-- `UIK.NONE` (R323): nothing changes. -/
def execUikNone (s : State) : Result := .next s

/-- `UIK.ENTER` (R326): "enter edit mode (`edit_mode := true`, `edit := channel`, `update := true`)". -/
def execUikEnter (s : State) : Result :=
  .next ((takeIn .uiKeyIn s).setUi
    { s.ui with editMode := true, edit := s.ui.channel, update := true, prevKeys := uiSnap s })

/-- `UIK.IGNORE0` (R324): not in edit mode, SW not newly on. -/
def execUikIgnore0 (s : State) : Result := .next ((takeIn .uiKeyIn s).setUi { s.ui with prevKeys := uiSnap s })

/-- `UIK.COMMIT` (R327): "commit: `channel := edit`, `edit_mode := false` (no explicit `update` …)". -/
def execUikCommit (s : State) : Result :=
  .next ((takeIn .uiKeyIn s).setUi { s.ui with channel := s.ui.edit, editMode := false, prevKeys := uiSnap s })

/-- `UIK.STEP_UP` (R328): "increment `edit := (edit+1) mod chans`". -/
def execUikStepUp (s : State) : Result :=
  .next ((takeIn .uiKeyIn s).setUi
    { s.ui with edit := (s.ui.edit + 1) % s.cfg.chans, update := true, prevKeys := uiSnap s })

/-- `UIK.STEP_DOWN` (R329): "decrement `edit := (edit - 1 + chans) mod chans`". -/
def execUikStepDown (s : State) : Result :=
  .next ((takeIn .uiKeyIn s).setUi
    { s.ui with
      edit := (((s.ui.edit : Int) - 1 + s.cfg.chans) % s.cfg.chans).toNat, update := true, prevKeys := uiSnap s })

/-- `UIK.IGNORE1` (R325): in edit mode, neither SW nor A newly on. -/
def execUikIgnore1 (s : State) : Result := .next ((takeIn .uiKeyIn s).setUi { s.ui with prevKeys := uiSnap s })

end Sys2Proof.Machine
end

