-- ==== Sys2Proof/Machine/UiOutput.lean ====
section
/-! DEFINITION. UIO: the output half of the selection controller (46_selection.md): the render sweep and the
pass-through. -/

namespace Sys2Proof.Machine

/-- `UIO.RSTEP` (R331): one sweep step, not the last. -/
def execUioRstep (s : State) : Result :=
  .next ((deliver .uiOut s).setUi
    { s.ui with frame := renderFrame s, ov := true, led := storeU s.cfg.AW (s.ui.led + 1) })

/-- `UIO.RLAST` (R333): the last sweep step; "`led` … wraps to 0 at the end, clearing `update`". -/
def execUioRlast (s : State) : Result :=
  .next ((deliver .uiOut s).setUi { s.ui with frame := renderFrame s, ov := true, led := 0, update := false })

/-- `UIO.RSTALL` (R332): a sweep step waits for the slot; nothing changes. -/
def execUioRstall (s : State) : Result := .next s

/-- `UIO.PASS` (R334): forward one external frame unmodified. -/
def execUioPass (s : State) : Result :=
  .next ((deliver .uiOut (takeIn .uiPtIn s)).setUi { s.ui with frame := ptFrame s, ov := true })

/-- `UIO.DRAIN` (R335): the slot's frame, if any, transfers. -/
def execUioDrain (s : State) : Result := .next ((deliver .uiOut s).setUi { s.ui with ov := false })

/-- `UIO.KEEP` (R336): nothing changes. -/
def execUioKeep (s : State) : Result := .next s

end Sys2Proof.Machine
end

