-- ==== Sys2Proof/Machine/Dispatch.lean ====
section
/-! DEFINITION. The meaning of every operation: one arm per row of spec/opcode_table.json. -/

namespace Sys2Proof.Machine

def exec (i : Instr) (s : State) : Host.Outcome State Fault Refusal :=
  match i with
  | .rectXfer => Sys2Proof.Machine.execRectXfer s
  | .rectStall => Sys2Proof.Machine.execRectStall s
  | .rectNone => Sys2Proof.Machine.execRectNone s
  | .boxWaitin => Sys2Proof.Machine.execBoxWaitin s
  | .boxAccept => Sys2Proof.Machine.execBoxAccept s
  | .boxWrite => Sys2Proof.Machine.execBoxWrite s
  | .boxAccum => Sys2Proof.Machine.execBoxAccum s
  | .boxEmit => Sys2Proof.Machine.execBoxEmit s
  | .boxHold => Sys2Proof.Machine.execBoxHold s
  | .boxDrain => Sys2Proof.Machine.execBoxDrain s
  | .peakAttack => Sys2Proof.Machine.execPeakAttack s
  | .peakHold => Sys2Proof.Machine.execPeakHold s
  | .peakDecay => Sys2Proof.Machine.execPeakDecay s
  | .peakKeep => Sys2Proof.Machine.execPeakKeep s
  | .peakDrain => Sys2Proof.Machine.execPeakDrain s
  | .qntSathi => Sys2Proof.Machine.execQntSathi s
  | .qntSatlo => Sys2Proof.Machine.execQntSatlo s
  | .qntDefer => Sys2Proof.Machine.execQntDefer s
  | .qntHalf => Sys2Proof.Machine.execQntHalf s
  | .qntNoacc => Sys2Proof.Machine.execQntNoacc s
  | .qntMul => Sys2Proof.Machine.execQntMul s
  | .barPresent => Sys2Proof.Machine.execBarPresent s
  | .barStall => Sys2Proof.Machine.execBarStall s
  | .barAccept => Sys2Proof.Machine.execBarAccept s
  | .barWaitin => Sys2Proof.Machine.execBarWaitin s
  | .keyWaitin => Sys2Proof.Machine.execKeyWaitin s
  | .keyAccept => Sys2Proof.Machine.execKeyAccept s
  | .keyDone => Sys2Proof.Machine.execKeyDone s
  | .keyIsolate => Sys2Proof.Machine.execKeyIsolate s
  | .keySendwait => Sys2Proof.Machine.execKeySendwait s
  | .keySend => Sys2Proof.Machine.execKeySend s
  | .uikNone => Sys2Proof.Machine.execUikNone s
  | .uikEnter => Sys2Proof.Machine.execUikEnter s
  | .uikIgnore0 => Sys2Proof.Machine.execUikIgnore0 s
  | .uikCommit => Sys2Proof.Machine.execUikCommit s
  | .uikStepUp => Sys2Proof.Machine.execUikStepUp s
  | .uikStepDown => Sys2Proof.Machine.execUikStepDown s
  | .uikIgnore1 => Sys2Proof.Machine.execUikIgnore1 s
  | .uioRstep => Sys2Proof.Machine.execUioRstep s
  | .uioRlast => Sys2Proof.Machine.execUioRlast s
  | .uioRstall => Sys2Proof.Machine.execUioRstall s
  | .uioPass => Sys2Proof.Machine.execUioPass s
  | .uioDrain => Sys2Proof.Machine.execUioDrain s
  | .uioKeep => Sys2Proof.Machine.execUioKeep s

end Sys2Proof.Machine
end

