-- ==== Sys2Proof/Machine/Tick.lean ====
section
/-! DEFINITION. One tick of the CORE (20_memory.md R76): phase 1 with the protocol check, phase 2 and the selector words,
phase 3 with the eight operations and their simultaneous commit (00_scope.md R11), and fault detection in the order of
60_exceptions.md R378. -/

namespace Sys2Proof.Machine

/-! ### Phase 1: the producer obligation (60_exceptions.md R371) -/

/-- Whether the environment breaks the producer obligation on a port in the coming tick (R371, 20_memory.md R73). -/
def breaches (s : State) (p : InPort) : Bool :=
  (s.mon.get p).pending && !(inValid p s && inItem p s == (s.mon.get p).item)

/-- The monitor record of a port after the coming tick (R371). -/
def nextMonitor (s : State) (p : InPort) : Monitor :=
  if inValid p s && !inReady p s then ⟨true, inItem p s⟩ else { s.mon.get p with pending := false }

/-! ### Phase 3: the operations and their commit -/

/-- What unit `u`'s operation of the coming tick does, alone, to the state at the start of the tick. -/
def unitState (s : State) (u : UnitId) : State :=
  match selected u s with
  | some i =>
    match exec i s with
    | .next t => t
    | _ => s
  | none => s

/-- How unit `u`'s operation of the coming tick stops the tick, if it does: by raising a fault of R370, which is taken
with the state at the start of the tick (R375), or by a fault or a refusal of the model. -/
def unitStop (s : State) (u : UnitId) : Option Result :=
  match selected u s with
  | some i =>
    match exec i s with
    | .next t => t.fault.map (fun f => .next (takeFault f s))
    | .fault r => some (.fault r)
    | .refused r => some (.refused r)
  | none => none

/-- "all '<-' writes of all units take effect together" (R76): each unit's registers, the queue of each input port and
the log of each output port come from the one unit that owns them (10_state.md R20, 46_selection.md R320). Of
`ui.update`, which UIK only sets and UIO only clears, a set flag is UIO's to write and a clear one UIK's. -/
def commit (s : State) (after : UnitId → State) : State :=
  { s with
    box := (after .box).box
    peak := (after .peak).peak
    qnt := (after .qnt).qnt
    bar := (after .bar).bar
    key := (after .key).key
    ui :=
      { channel := (after .uik).ui.channel
        edit := (after .uik).ui.edit
        editMode := (after .uik).ui.editMode
        prevKeys := (after .uik).ui.prevKeys
        led := (after .uio).ui.led
        update := if s.ui.update then (after .uio).ui.update else (after .uik).ui.update
        ov := (after .uio).ui.ov
        frame := (after .uio).ui.frame }
    env :=
      { s.env with
        queues :=
          { rectIn := (after .rect).env.queues.rectIn
            peakIn := (after .peak).env.queues.peakIn
            barIn := (after .bar).env.queues.barIn
            keyIn := (after .key).env.queues.keyIn
            uiKeyIn := (after .uik).env.queues.uiKeyIn
            uiPtIn := (after .uio).env.queues.uiPtIn }
        taken :=
          { boxOut := (after .box).env.taken.boxOut
            peakOut := (after .peak).env.taken.peakOut
            qntOut := (after .qnt).env.taken.qntOut
            keyOut := (after .key).env.taken.keyOut
            uiOut := (after .uio).env.taken.uiOut } } }

/-- The tick boundary for the model's own records: the monitors (R371), the tick number, and the raw trace, whose entry
for this tick is used up. `s` is the state at the start of the tick, `t` the committed one. -/
def endTick (s t : State) : State :=
  { t with
    mon :=
      { rectIn := nextMonitor s .rectIn
        peakIn := nextMonitor s .peakIn
        barIn := nextMonitor s .barIn
        keyIn := nextMonitor s .keyIn
        uiKeyIn := nextMonitor s .uiKeyIn
        uiPtIn := nextMonitor s .uiPtIn }
    tick := s.tick + 1
    env := { t.env with trace := s.env.trace.tail } }

/-! ### One tick -/

/-- One tick of a machine that is not halted. The faults are looked for in the phase order of R378, which is the order
of their codes; within one code, in the order of the ports (R92) or of the unit codes (R111) (log 8). -/
def tick (s : State) : Result :=
  match InPort.all.find? (breaches s) with
  | some p => .next (takeFault (.envProtocol p s.tick) s)
  | none =>
    match UnitId.all.find? (fun u => (selected u s).isNone) with
    | some u => .next (takeFault (.illegalState u (selector u s)) s)
    | none =>
      match UnitId.all.findSome? (unitStop s) with
      | some r => r
      | none =>
        match failedAssertion (commit s (unitState s)) with
        | some f => .next (takeFault f s)
        | none => .next (endTick s (commit s (unitState s)))

end Sys2Proof.Machine
end

