-- ==== Sys2Proof/Machine/Step.lean ====
section
/-! DEFINITION. One step of the machine, and the state whose next step runs a given selector word. -/

namespace Sys2Proof.Machine

/-- One step: one tick (00_scope.md R6). A halted model answers its fault and changes nothing (60_exceptions.md R375). -/
def step (s : State) : Host.Outcome State Fault Refusal :=
  match s.fault with
  | some f => .fault (.halted f)
  | none => tick s

/-- `s` with the selector word of bits `w` standing where the next step forms it (log 13). -/
def State.withFetchWord (s : State) (nbits w : Nat) : State := placeWord s (BitVec.ofNat 12 (w % 2 ^ nbits))

end Sys2Proof.Machine
end

