-- ==== Sys2Proof/Machine/Script.lean ====
section
/-! DEFINITION. The stimulus scripts of 30_encoding.md R137 and R138: the commands the environment of a test gives, and
what they do to the machine. They add nothing to the machine; they drive its configuration, reset, inputs and steps. -/

namespace Sys2Proof.Machine

/-! ### Commands -/

/-- One `NAME=value` of `cfg` (R137), a parameter of 00_scope.md R7. -/
inductive Param where
  | WR (v : Nat) | WB (v : Nat) | D (v : Nat) | WP (v : Nat) | n (v : Nat) | point (v : Nat)
  | IW (v : Nat) | OW (v : Nat) | MW (v : Nat) | N (v : Nat) | thr (v : List Nat) | mul (v : List Nat)
  | K (v : Nat) | KU (v : Nat) | swBit (v : Nat) | aBit (v : Nat) | bBit (v : Nat)
  | chans (v : Nat) | leds (v : Nat) | bright (v : Nat) | CW (v : Nat) | AW (v : Nat)
  deriving DecidableEq, Repr

/-- Fix one parameter. -/
def Param.apply (c : Config) : Param → Config
  | .WR v => { c with WR := v }
  | .WB v => { c with WB := v }
  | .D v => { c with D := v }
  | .WP v => { c with WP := v }
  | .n v => { c with n := v }
  | .point v => { c with point := v }
  | .IW v => { c with IW := v }
  | .OW v => { c with OW := v }
  | .MW v => { c with MW := v }
  | .N v => { c with N := v }
  | .thr v => { c with thr := v }
  | .mul v => { c with mul := v }
  | .K v => { c with K := v }
  | .KU v => { c with KU := v }
  | .swBit v => { c with swBit := v }
  | .aBit v => { c with aBit := v }
  | .bBit v => { c with bBit := v }
  | .chans v => { c with chans := v }
  | .leds v => { c with leds := v }
  | .bright v => { c with bright := v }
  | .CW v => { c with CW := v }
  | .AW v => { c with AW := v }

/-- A payload for an input port, by its fields (30_encoding.md R121-R131). -/
inductive InPayload where
  | rectIn (l r : Int)
  | peakIn (x : Nat)
  | barIn (data : Nat)
  | keyIn (snap : Nat)
  | uiKeyIn (snap : Nat)
  | uiPtIn (addr red green blue : Nat)
  deriving DecidableEq, Repr

/-- A payload on an output port, by its fields (30_encoding.md R121-R131). -/
inductive OutPayload where
  | boxOut (avg : Int)
  | peakOut (y : Nat)
  | qntOut (value : Nat)
  | keyOut (mask : Nat) (level : Bool)
  | uiOut (addr red green blue : Nat)
  deriving DecidableEq, Repr

/-- The port of an offered payload. -/
def InPayload.port : InPayload → InPort
  | .rectIn _ _ => .rectIn
  | .peakIn _ => .peakIn
  | .barIn _ => .barIn
  | .keyIn _ => .keyIn
  | .uiKeyIn _ => .uiKeyIn
  | .uiPtIn _ _ _ _ => .uiPtIn

/-- The port of an expected payload. -/
def OutPayload.port : OutPayload → OutPort
  | .boxOut _ => .boxOut
  | .peakOut _ => .peakOut
  | .qntOut _ => .qntOut
  | .keyOut _ _ => .keyOut
  | .uiOut _ _ _ _ => .uiOut

/-- The packed payload (R120). -/
def InPayload.pack (c : Config) : InPayload → Nat
  | .rectIn l r => packRect c l r
  | .peakIn x => storeU c.WP x
  | .barIn d => storeU c.IW d
  | .keyIn k => storeU c.K k
  | .uiKeyIn k => storeU c.KU k
  | .uiPtIn a r g b => packLed c a r g b

/-- The packed payload (R120). -/
def OutPayload.pack (c : Config) : OutPayload → Nat
  | .boxOut v => patternS c.WB v
  | .peakOut y => storeU c.WP y
  | .qntOut v => storeU c.OW v
  | .keyOut m l => packEvent c m l
  | .uiOut a r g b => packLed c a r g b

/-- A command of a stimulus script (R137). -/
inductive Command where
  | cfg (ps : List Param)
  | reset
  | offer (p : InPayload) (first last : Bool)
  | sink (p : OutPort) (k : Sink)
  | tick (n : Nat)
  | run
  | expect (p : OutPayload) (first last : Bool)
  deriving DecidableEq, Repr

/-! ### Pseudo-commands (R138) -/

/-- `press SW`. -/
def pressSw (c : Config) : List Command :=
  [.offer (.uiKeyIn (1 <<< c.swBit)) false false, .offer (.uiKeyIn 0) false false]

/-- `turn down`. -/
def turnDown (c : Config) : List Command :=
  [.offer (.uiKeyIn (1 <<< c.aBit)) false false, .offer (.uiKeyIn 0) false false]

/-- `turn up`. -/
def turnUp (c : Config) : List Command :=
  [.offer (.uiKeyIn (1 <<< c.aBit + 1 <<< c.bBit)) false false, .offer (.uiKeyIn (1 <<< c.bBit)) false false]

/-- `stereo L R`. -/
def stereo (l r : Int) : List Command := [.offer (.rectIn l r) false false]

/-- `sample peak V`. -/
def samplePeak (v : Nat) : List Command := [.offer (.peakIn v) false false]

/-- `sample bar V`. -/
def sampleBar (v : Nat) : List Command := [.offer (.barIn v) false false]

/-- `snap V`. -/
def snap (v : Nat) : List Command := [.offer (.keyIn v) false false]

/-! ### Running a script -/

/-- What a script runs on: the configuration fixed so far, the machine once reset, and how many items of each output port
have been expected so far. -/
structure Bench where
  cfg : Config
  machine : Option State
  expected : OutPorts Nat
  deriving DecidableEq, Repr

/-- Why a script stops before its end. -/
inductive ScriptStop where
  /-- a command that drives the machine stands before `reset` (log 23) -/
  | notReset
  /-- the configuration is refused (R405) -/
  | refused (failed : List Check)
  /-- a tick found the machine halted -/
  | stopped (f : Fault)
  /-- a tick was refused -/
  | noMeaning (r : Refusal)
  /-- `run` did not come to rest within the ticks allowed (log 15) -/
  | notQuiescent
  /-- `expect` found another item, or none (log 22) -/
  | unexpected (p : OutPort)
  deriving DecidableEq, Repr

/-- The end of `run`: "every input queue is empty and every unit is quiescent" (R137). -/
def quiescent (s : State) : Bool :=
  s.env.trace.isEmpty && InPort.all.all (fun p => (s.env.queues.get p).isEmpty) &&
    s.box.state == boxIdle && !s.peak.ov && s.qnt.state == qntIdle && !s.qnt.ov && s.bar.idx == s.cfg.N &&
    s.key.state == keyIdle && !s.ui.update && s.ui.led == 0 && !s.ui.ov

/-- `tick N` (R137): run `N` ticks. -/
def runTicks : Nat → State → Except ScriptStop State
  | 0, s => .ok s
  | k + 1, s =>
    match step s with
    | .next t => runTicks k t
    | .fault f => .error (.stopped f)
    | .refused r => .error (.noMeaning r)

/-- `run` (R137), for at most `fuel` ticks: a sink that never becomes ready leaves no end to wait for (log 15). -/
def runUntilQuiet : Nat → State → Except ScriptStop State
  | 0, s => if quiescent s then .ok s else .error .notQuiescent
  | k + 1, s =>
    if quiescent s then .ok s
    else
      match step s with
      | .next t => runUntilQuiet k t
      | .fault f => .error (.stopped f)
      | .refused r => .error (.noMeaning r)

/-- What one command does (R137). DESIGN CHOICE, where R137 leaves it open:
- `cfg` after the first `reset` does not stop the script and takes no effect: the machine keeps the configuration it was
  booted with, a later `reset` applies reset to that one, and the new values are not checked by R405 (log 21);
- `expect` compares the whole item, every field of the payload and both flags; a flag left out must be 0, and the item
  must already have transferred (log 22);
- a command that drives the machine and stands before the first `reset` stops the script (log 23). -/
def Command.perform (fuel : Nat) (b : Bench) (c : Command) : Except ScriptStop Bench :=
  match c, b.machine with
  | .cfg ps, _ => .ok { b with cfg := ps.foldl Param.apply b.cfg }
  | .reset, none =>
    match boot b.cfg with
    | .next s => .ok { b with machine := some s }
    | .fault f => .error (.stopped f)
    | .refused _ => .error (.refused b.cfg.failedChecks)
  | .reset, some s => .ok { b with machine := some (applyReset s) }
  | _, none => .error .notReset
  | .offer p first last, some s =>
    let item : Item := ⟨p.pack s.cfg, first, last⟩
    .ok { b with
      machine := some (s.setEnv
        { s.env with queues := s.env.queues.set p.port (s.env.queues.get p.port ++ [item]) }) }
  | .sink p k, some s =>
    .ok { b with machine := some (s.setEnv { s.env with sinks := s.env.sinks.set p k }) }
  | .tick n, some s => (runTicks n s).map (fun t => { b with machine := some t })
  | .run, some s => (runUntilQuiet fuel s).map (fun t => { b with machine := some t })
  | .expect p first last, some s =>
    match (s.env.taken.get p.port)[b.expected.get p.port]? with
    | some t =>
      if t.item = ⟨p.pack s.cfg, first, last⟩ then
        .ok { b with expected := b.expected.set p.port (b.expected.get p.port + 1) }
      else .error (.unexpected p.port)
    | none => .error (.unexpected p.port)

/-- Run a script (R137): its commands in order. -/
def runScript (fuel : Nat) : Bench → List Command → Except ScriptStop Bench
  | b, [] => .ok b
  | b, c :: rest =>
    match c.perform fuel b with
    | .ok b' => runScript fuel b' rest
    | .error e => .error e

/-- A bench with nothing configured but the default test parameters of 95_test_vectors.md. -/
def Bench.fresh : Bench := { cfg := .default, machine := none, expected := .const 0 }

end Sys2Proof.Machine
end

