-- ==== Sys2Proof/Safety.lean ====
section
/-! DEFINITION. What counts as a good state and a clean run, and the words the statements about the machine use. -/

namespace Sys2Proof.Machine

/-! ### The invariant -/

/-- A value an unsigned field of width `w` can hold (00_scope.md R9). -/
abbrev inU (w v : Nat) : Prop := v < 2 ^ w

/-- A value a signed field of width `w` can hold (00_scope.md R9). -/
abbrev inS (w : Nat) (v : Int) : Prop := -2 ^ (w - 1) ≤ v ∧ v < 2 ^ (w - 1)

/-- BOX: a legal code, every register within its width (10_state.md R24), the ring buffer canonical with its words in
`0..D-1` and within their width (20_memory.md R81), the invariant R25 with its bound, and the latched old sample still
being the word that WRITE replaces. -/
abbrev BoxInv (s : State) : Prop :=
  s.box.state ≤ boxWait ∧ s.box.addr < s.cfg.D ∧ inS s.cfg.WB s.box.newSample ∧ inS s.cfg.WB s.box.oldSample ∧
    inS (s.cfg.WB + 1) s.box.delta ∧ inS s.cfg.WB s.box.out ∧ inS s.cfg.S s.box.sum ∧
    s.box.buf.wf = true ∧ (∀ e ∈ s.box.buf, e.1 < s.cfg.D ∧ inS s.cfg.WB e.2) ∧
    okBoxSum s = true ∧ s.box.sum.natAbs ≤ s.cfg.D * 2 ^ (s.cfg.WB - 1) ∧
    (s.box.state = boxWrite → s.box.oldSample = s.box.buf.read s.box.addr)

/-- PEAK: R26 and R27. -/
abbrev PeakInv (s : State) : Prop :=
  inU (s.cfg.WP + s.cfg.point) s.peak.peak ∧ inU s.cfg.countWidth s.peak.count ∧ inU s.cfg.WP s.peak.y ∧ okPeak s = true

/-- QNT: R28 and R29. -/
abbrev QntInv (s : State) : Prop :=
  inU s.cfg.OW s.qnt.v ∧ inU s.cfg.IW s.qnt.md ∧ inU s.cfg.MW s.qnt.mm ∧ okQntSlot s = true

/-- BAR: R30. -/
abbrev BarInv (s : State) : Prop := s.bar.idx ≤ s.cfg.N ∧ inU s.cfg.IW s.bar.data

/-- KEY: a legal code, R31 and R32. -/
abbrev KeyInv (s : State) : Prop :=
  s.key.state ≤ keySend ∧ inU s.cfg.K s.key.prev ∧ inU s.cfg.K s.key.diff ∧ inU s.cfg.K s.key.mask ∧ okKeyMask s = true

/-- UI: R33 and R34. -/
abbrev UiInv (s : State) : Prop :=
  okUiIndices s = true ∧ okUiLed s = true ∧ inU s.cfg.KU s.ui.prevKeys ∧ inU s.cfg.AW s.ui.frame.addr ∧
    inU s.cfg.CW s.ui.frame.red ∧ inU s.cfg.CW s.ui.frame.green ∧ inU s.cfg.CW s.ui.frame.blue

/-- A good state: a configuration that passed R405, and every unit's registers legal, within their widths and meeting
the invariants of 10_state.md. -/
abbrev Inv (s : State) : Prop :=
  s.cfg.wellFormed = true ∧ BoxInv s ∧ PeakInv s ∧ QntInv s ∧ BarInv s ∧ KeyInv s ∧ UiInv s

/-! ### Clean ticks and runs -/

/-- The environment meets the producer obligation of 20_memory.md R73 in the coming tick, on every input port. -/
def envKeeps (s : State) : Bool := InPort.all.all (fun p => !breaches s p)

/-- `n` ticks, each of which leaves the machine without a fault; `none` where one does not. -/
def cleanRun : Nat → State → Option State
  | 0, s => some s
  | k + 1, s =>
    match step s with
    | .next t => if t.fault = none then cleanRun k t else none
    | _ => none

/-- The same operation executed `n` times by its unit, with nothing around it. -/
def repeatOp (i : Instr) : Nat → State → Option State
  | 0, s => some s
  | k + 1, s =>
    match exec i s with
    | .next t => repeatOp i k t
    | _ => none

/-! ### Frames: what one unit's operation may change -/

/-- `t` is `s` but for the queue of `rect_in`. RECT has no register. -/
def onlyRect (s t : State) : Prop :=
  t = { s with env := { s.env with queues := { s.env.queues with rectIn := t.env.queues.rectIn } } }

/-- `t` is `s` but for BOX's registers and the log of `box_out`. -/
def onlyBox (s t : State) : Prop :=
  t = { s with box := t.box, env := { s.env with taken := { s.env.taken with boxOut := t.env.taken.boxOut } } }

/-- `t` is `s` but for PEAK's registers, the queue of `peak_in` and the log of `peak_out`. -/
def onlyPeak (s t : State) : Prop :=
  t = { s with
    peak := t.peak
    env :=
      { s.env with
        queues := { s.env.queues with peakIn := t.env.queues.peakIn }
        taken := { s.env.taken with peakOut := t.env.taken.peakOut } } }

/-- `t` is `s` but for QNT's registers and the log of `qnt_out`. -/
def onlyQnt (s t : State) : Prop :=
  t = { s with qnt := t.qnt, env := { s.env with taken := { s.env.taken with qntOut := t.env.taken.qntOut } } }

/-- `t` is `s` but for BAR's registers and the queue of `bar_in`. -/
def onlyBar (s t : State) : Prop :=
  t = { s with bar := t.bar, env := { s.env with queues := { s.env.queues with barIn := t.env.queues.barIn } } }

/-- `t` is `s` but for KEY's registers, the queue of `key_in` and the log of `key_out`. -/
def onlyKey (s t : State) : Prop :=
  t = { s with
    key := t.key
    env :=
      { s.env with
        queues := { s.env.queues with keyIn := t.env.queues.keyIn }
        taken := { s.env.taken with keyOut := t.env.taken.keyOut } } }

/-- `t` is `s` but for the registers UIK writes (46_selection.md R320) and the queue of `ui_key_in`. -/
def onlyUik (s t : State) : Prop :=
  t = { s with
    ui :=
      { s.ui with
        channel := t.ui.channel, edit := t.ui.edit, editMode := t.ui.editMode, prevKeys := t.ui.prevKeys
        update := t.ui.update }
    env := { s.env with queues := { s.env.queues with uiKeyIn := t.env.queues.uiKeyIn } } }

/-- `t` is `s` but for the registers UIO writes (46_selection.md R320), the queue of `ui_pt_in` and the log of
`ui_out`. -/
def onlyUio (s t : State) : Prop :=
  t = { s with
    ui := { s.ui with led := t.ui.led, update := t.ui.update, ov := t.ui.ov, frame := t.ui.frame }
    env :=
      { s.env with
        queues := { s.env.queues with uiPtIn := t.env.queues.uiPtIn }
        taken := { s.env.taken with uiOut := t.env.taken.uiOut } } }

/-! ### Transfers -/

/-- The queue of an input port after an item transfers: its head has left, unless the inputs come from a raw trace. -/
def queueTaken (p : InPort) (s : State) : List Item :=
  if s.env.trace = [] then (s.env.queues.get p).tail else s.env.queues.get p

/-- The log of an output port after the item it presents transfers. -/
def logGiven (p : OutPort) (s : State) : List Taken := s.env.taken.get p ++ [⟨s.tick, outItem p s⟩]

/-- The log of an output port after a tick: one item longer if the port transfers. -/
def logAfter (p : OutPort) (s : State) : List Taken := if outXfer p s then logGiven p s else s.env.taken.get p

/-- The items of a log, without their ticks. -/
def items (l : List Taken) : List Item := l.map Taken.item

/-! ### What the units compute -/

/-- The value QNT gives for an item: the if / elif / else of 43_quantizer.md R232-R236. -/
def quantize (c : Config) (data lo hi mul : Nat) : Nat :=
  if hi ≤ data then c.outputMax
  else if data ≤ lo then 0
  else if mul = 0 then c.outputMax >>> 1
  else interpolate c mul (data - lo)

/-- A well-scaled segment (43_quantizer.md R238). -/
def wellScaled (c : Config) (lo hi mul : Nat) : Prop :=
  lo < hi ∧ 1 ≤ mul ∧ mul ≤ c.outputMax * 2 ^ c.shift / (hi - lo)

/-- The value of item `i` of the packet for a sample (44_bargraph.md R268). -/
def packetValue (c : Config) (data i : Nat) : Nat := quantize c data (c.thrAt i) (c.thrAt (i + 1)) (c.mulAt i)

/-- The ring buffer holds the samples `xs`, newest first, ending just before `box.addr`; where there are fewer than `D`,
the missing ones count as 0 (41_boxcar.md R179). -/
def holdsSamples (xs : List Int) (s : State) : Prop :=
  ∀ j, j < s.cfg.D → s.box.buf.read ((s.box.addr + s.cfg.D - 1 - j) % s.cfg.D) = xs.getD j 0

/-- The sum of the newest `D` samples, missing ones counting as 0 (41_boxcar.md R179). -/
def windowSum (D : Nat) (xs : List Int) : Int := ((List.range D).map (fun j => xs.getD j 0)).sum

/-- The toggle events for the change from snapshot `s0` to `s1` (45_key_serializer.md R298): the set bits of `s0 XOR s1`
in ascending order, each with the bit's value in `s1`, `first` on the first and `last` on the last. -/
def toggleEvents (c : Config) (s0 s1 : Nat) : List Item :=
  let bits := (List.range c.K).filter (fun j => (s0 ^^^ s1).testBit j)
  bits.map fun j => ⟨packEvent c (2 ^ j) (s1.testBit j), bits.head? == some j, bits.getLast? == some j⟩

/-- The packed LED frame of sweep step `L` (46_selection.md R330). -/
def sweepItem (c : Config) (channel edit L : Nat) : Item :=
  ⟨packLed c L (if L = channel then c.bright else 0) (if L = edit then c.bright else 0) 0, L == 0, L == c.leds - 1⟩

/-- What the environment's free value is replaced by: what an input port carries while its `valid` is 0
(93_implementation_defined.md I5). -/
def withIdle (x : InPorts Item) (s : State) : State := s.setEnv { s.env with idle := x }

end Sys2Proof.Machine
end

