-- ==== Sys2Proof/Certificates/Slice0/Obligations.lean ====
section
/-! DEFINITION. The statements about the model, for the provers. -/

open Sys2Proof Sys2Proof.Machine

/-! ### Selector words -/

/-- 30_encoding.md R110, R133, R136: the decoder reads an operation from a word exactly when the word matches the
operation's row of opcode_table.json. -/
def Obligations.DecodeIsTheMatchingRow : Prop :=
  ∀ (w : Word) (i : Instr), decode w = some i ↔ w &&& i.mask = i.pattern

/-- Decode and encode agree: the words that decode to a well-formed operation are its encoding with any value of the
condition bits its row leaves free, and no others. -/
def Obligations.DecodeInvertsEncode : Prop :=
  ∀ i : Instr, i.wellFormed = true →
    ∀ w : Word, decode w = some i ↔ ∃ free : Word, w = encode i ||| (free &&& ~~~ i.mask)

/-- One selector word of each unit, and some words of no row, read as 30_encoding.md R112-R119 and R133 give them. -/
def Obligations.DecodeReadsTheSpecsWords : Prop :=
  decode 0b0000_0000_0011#12 = some .rectXfer ∧ decode 0b0001_0100_0010#12 = some .boxDrain ∧
  decode 0b0010_0000_1101#12 = some .peakDecay ∧ decode 0b0011_0000_0001#12 = some .qntDefer ∧
  decode 0b0100_0001_0011#12 = some .barAccept ∧ decode 0b0101_0001_0110#12 = some .keyDone ∧
  decode 0b0110_0001_1101#12 = some .uikStepUp ∧ decode 0b0111_0001_1101#12 = some .uioRlast ∧
  decode 0b0001_0101_0000#12 = none ∧ decode 0b0101_0011_0000#12 = none ∧ decode 0b1000_0000_0000#12 = none ∧
  decode 0b0001_0000_0100#12 = none

/-- 30_encoding.md R133, R136: in every good state every unit forms a word of one of its own rows. -/
def Obligations.GoodStatesSelectLegalOperations : Prop :=
  ∀ s : State, Inv s → ∀ u : UnitId, ∃ i : Instr, selected u s = some i ∧ i.unit = u

/-- 30_encoding.md R112. -/
def Obligations.RectSelection : Prop :=
  ∀ s : State,
    selector .rect s = mkSel 0 0 (inValid .rectIn s) (boxInReady s) false false ∧
    (selected .rect s = some .rectXfer ↔ inValid .rectIn s = true ∧ s.box.state = boxIdle) ∧
    (selected .rect s = some .rectStall ↔ inValid .rectIn s = true ∧ s.box.state ≠ boxIdle) ∧
    (selected .rect s = some .rectNone ↔ inValid .rectIn s = false)

/-- 30_encoding.md R113. -/
def Obligations.BoxSelection : Prop :=
  ∀ s : State,
    selector .box s =
      mkSel 1 (s.box.state.setWidth 4) (inValid .rectIn s) (outReady .boxOut s) false false ∧
    (selected .box s = some .boxWaitin ↔ s.box.state = boxIdle ∧ inValid .rectIn s = false) ∧
    (selected .box s = some .boxAccept ↔ s.box.state = boxIdle ∧ inValid .rectIn s = true) ∧
    (selected .box s = some .boxWrite ↔ s.box.state = boxWrite) ∧
    (selected .box s = some .boxAccum ↔ s.box.state = boxAccum) ∧
    (selected .box s = some .boxEmit ↔ s.box.state = boxEmit) ∧
    (selected .box s = some .boxHold ↔ s.box.state = boxWait ∧ outReady .boxOut s = false) ∧
    (selected .box s = some .boxDrain ↔ s.box.state = boxWait ∧ outReady .boxOut s = true) ∧
    (selected .box s = none ↔ boxWait < s.box.state)

/-- 30_encoding.md R114. -/
def Obligations.PeakSelection : Prop :=
  ∀ s : State,
    selector .peak s = mkSel 2 0 (peakAccept s) (peakAttacks s) (peakCntLast s) (outReady .peakOut s) ∧
    (selected .peak s = some .peakAttack ↔ peakAccept s = true ∧ peakInt s < peakX s) ∧
    (selected .peak s = some .peakHold ↔ peakAccept s = true ∧ peakX s ≤ peakInt s ∧ s.peak.count ≠ s.cfg.n - 1) ∧
    (selected .peak s = some .peakDecay ↔ peakAccept s = true ∧ peakX s ≤ peakInt s ∧ s.peak.count = s.cfg.n - 1) ∧
    (selected .peak s = some .peakKeep ↔ peakAccept s = false ∧ outReady .peakOut s = false) ∧
    (selected .peak s = some .peakDrain ↔ peakAccept s = false ∧ outReady .peakOut s = true)

/-- 30_encoding.md R115. -/
def Obligations.QntSelection : Prop :=
  ∀ s : State,
    selector .qnt s = mkSel 3 (s.qnt.state.setWidth 4) (qntAccept s) (qntGeHi s) (qntLeLo s) (qntMulZero s) ∧
    (selected .qnt s = some .qntSathi ↔
      s.qnt.state = qntIdle ∧ qntAccept s = true ∧ (barQ s).hi ≤ (barQ s).data) ∧
    (selected .qnt s = some .qntSatlo ↔
      s.qnt.state = qntIdle ∧ qntAccept s = true ∧ (barQ s).data < (barQ s).hi ∧ (barQ s).data ≤ (barQ s).lo) ∧
    (selected .qnt s = some .qntDefer ↔
      s.qnt.state = qntIdle ∧ qntAccept s = true ∧ (barQ s).data < (barQ s).hi ∧ (barQ s).lo < (barQ s).data ∧
        (barQ s).mul ≠ 0) ∧
    (selected .qnt s = some .qntHalf ↔
      s.qnt.state = qntIdle ∧ qntAccept s = true ∧ (barQ s).data < (barQ s).hi ∧ (barQ s).lo < (barQ s).data ∧
        (barQ s).mul = 0) ∧
    (selected .qnt s = some .qntNoacc ↔ s.qnt.state = qntIdle ∧ qntAccept s = false) ∧
    (selected .qnt s = some .qntMul ↔ s.qnt.state = qntMul)

/-- 30_encoding.md R116, and R133 for `bar.idx > N` (the word formed there is the model's choice, log 3). -/
def Obligations.BarSelection : Prop :=
  ∀ s : State,
    (s.bar.idx ≤ s.cfg.N →
      selector .bar s =
        mkSel 4 (if s.bar.idx = s.cfg.N then 1 else 0) (inValid .barIn s) (qntInReady s) false false) ∧
    (selected .bar s = some .barPresent ↔ s.bar.idx < s.cfg.N ∧ qntInReady s = true) ∧
    (selected .bar s = some .barStall ↔ s.bar.idx < s.cfg.N ∧ qntInReady s = false) ∧
    (selected .bar s = some .barAccept ↔ s.bar.idx = s.cfg.N ∧ inValid .barIn s = true) ∧
    (selected .bar s = some .barWaitin ↔ s.bar.idx = s.cfg.N ∧ inValid .barIn s = false) ∧
    (selected .bar s = none ↔ s.cfg.N < s.bar.idx)

/-- 30_encoding.md R117. -/
def Obligations.KeySelection : Prop :=
  ∀ s : State,
    selector .key s =
      mkSel 5 (s.key.state.setWidth 4) (inValid .keyIn s) (s.key.diff == 0) (outReady .keyOut s) false ∧
    (selected .key s = some .keyWaitin ↔ s.key.state = keyIdle ∧ inValid .keyIn s = false) ∧
    (selected .key s = some .keyAccept ↔ s.key.state = keyIdle ∧ inValid .keyIn s = true) ∧
    (selected .key s = some .keyDone ↔ s.key.state = keyCalc ∧ s.key.diff = 0) ∧
    (selected .key s = some .keyIsolate ↔ s.key.state = keyCalc ∧ s.key.diff ≠ 0) ∧
    (selected .key s = some .keySendwait ↔ s.key.state = keySend ∧ outReady .keyOut s = false) ∧
    (selected .key s = some .keySend ↔ s.key.state = keySend ∧ outReady .keyOut s = true) ∧
    (selected .key s = none ↔ s.key.state = 3)

/-- 30_encoding.md R118. -/
def Obligations.UikSelection : Prop :=
  ∀ s : State,
    selector .uik s =
      mkSel 6 (if s.ui.editMode then 1 else 0) (uikAccept s) ((uiOn s).testBit s.cfg.swBit)
        ((uiOn s).testBit s.cfg.aBit) ((uiSnap s).testBit s.cfg.bBit) ∧
    (selected .uik s = some .uikNone ↔ uikAccept s = false) ∧
    (selected .uik s = some .uikEnter ↔
      s.ui.editMode = false ∧ uikAccept s = true ∧ (uiOn s).testBit s.cfg.swBit = true) ∧
    (selected .uik s = some .uikIgnore0 ↔
      s.ui.editMode = false ∧ uikAccept s = true ∧ (uiOn s).testBit s.cfg.swBit = false) ∧
    (selected .uik s = some .uikCommit ↔
      s.ui.editMode = true ∧ uikAccept s = true ∧ (uiOn s).testBit s.cfg.swBit = true) ∧
    (selected .uik s = some .uikStepUp ↔
      s.ui.editMode = true ∧ uikAccept s = true ∧ (uiOn s).testBit s.cfg.swBit = false ∧
        (uiOn s).testBit s.cfg.aBit = true ∧ (uiSnap s).testBit s.cfg.bBit = true) ∧
    (selected .uik s = some .uikStepDown ↔
      s.ui.editMode = true ∧ uikAccept s = true ∧ (uiOn s).testBit s.cfg.swBit = false ∧
        (uiOn s).testBit s.cfg.aBit = true ∧ (uiSnap s).testBit s.cfg.bBit = false) ∧
    (selected .uik s = some .uikIgnore1 ↔
      s.ui.editMode = true ∧ uikAccept s = true ∧ (uiOn s).testBit s.cfg.swBit = false ∧
        (uiOn s).testBit s.cfg.aBit = false)

/-- 30_encoding.md R119. -/
def Obligations.UioSelection : Prop :=
  ∀ s : State,
    selector .uio s =
      mkSel 7 (if uiRenderReq s then 1 else 0) (uiSlotFree s) (inValid .uiPtIn s) (s.ui.led == s.cfg.leds - 1)
        (outReady .uiOut s) ∧
    (selected .uio s = some .uioRstep ↔ uiRenderReq s = true ∧ uiSlotFree s = true ∧ s.ui.led ≠ s.cfg.leds - 1) ∧
    (selected .uio s = some .uioRlast ↔ uiRenderReq s = true ∧ uiSlotFree s = true ∧ s.ui.led = s.cfg.leds - 1) ∧
    (selected .uio s = some .uioRstall ↔ uiRenderReq s = true ∧ uiSlotFree s = false) ∧
    (selected .uio s = some .uioPass ↔ uiRenderReq s = false ∧ uiSlotFree s = true ∧ inValid .uiPtIn s = true) ∧
    (selected .uio s = some .uioDrain ↔ uiRenderReq s = false ∧ uiSlotFree s = true ∧ inValid .uiPtIn s = false) ∧
    (selected .uio s = some .uioKeep ↔ uiRenderReq s = false ∧ uiSlotFree s = false)

/-! ### RECT -/

/-- 40_rectifier.md R151, R155: the magnitude is exact and fits, and enters BOX unchanged and non-negative. -/
def Obligations.RectMagnitudeIsExact : Prop :=
  ∀ s : State, s.cfg.wellFormed = true →
    inS s.cfg.WR (rectL s) ∧ inS s.cfg.WR (rectR s) ∧
    (rectValue s.cfg (rectL s) (rectR s) : Int) = max |rectL s| |rectR s| ∧
    rectValue s.cfg (rectL s) (rectR s) ≤ 2 ^ (s.cfg.WR - 1) ∧
    boxInX s = rectValue s.cfg (rectL s) (rectR s)

/-- 40_rectifier.md R150, R152-R154: RECT joins `rect_in` to `box_in` in the same tick, every item framed by itself; it has
no register, XFER takes the offered pair, STALL and NONE do nothing. -/
def Obligations.RectOperationsComplete : Prop :=
  ∀ s : State,
    inReady .rectIn s = boxInReady s ∧ boxInValid s = inValid .rectIn s ∧ inXfer .rectIn s = boxInXfer s ∧
    boxInItem s = ⟨rectValue s.cfg (rectL s) (rectR s), true, true⟩ ∧
    (inXfer .rectIn s = true →
      ∃ t, exec .rectXfer s = .next t ∧ onlyRect s t ∧ t.env.queues.rectIn = queueTaken .rectIn s) ∧
    exec .rectStall s = .next s ∧ exec .rectNone s = .next s

/-! ### BOX -/

/-- 41_boxcar.md R173. -/
def Obligations.BoxAcceptLatches : Prop :=
  ∀ s : State, s.box.state = boxIdle → boxInValid s = true → s.box.addr < s.cfg.D →
    exec .boxAccept s =
      .next { s with
        box := { s.box with newSample := boxInX s, oldSample := s.box.buf.read s.box.addr, state := boxWrite } }

/-- 41_boxcar.md R174, 20_memory.md R81: one word of the ring buffer changes, and the difference is exact. -/
def Obligations.BoxWriteReplacesOneWord : Prop :=
  ∀ s : State, Inv s → s.box.state = boxWrite →
    ∃ buf : Memory,
      exec .boxWrite s =
        .next { s with
          box := { s.box with delta := s.box.newSample - s.box.oldSample, buf := buf, state := boxAccum } } ∧
      (∀ a, buf.read a = if a = s.box.addr then s.box.newSample else s.box.buf.read a) ∧ buf.wf = true

/-- 41_boxcar.md R175, 10_state.md R25: the sum is exact ("never leaves S bits"), the address advances modulo `D`. -/
def Obligations.BoxAccumAddsExactly : Prop :=
  ∀ s : State, Inv s → s.box.state = boxAccum →
    exec .boxAccum s =
      .next { s with
        box :=
          { s.box with
            sum := s.box.sum + s.box.delta
            addr := if s.box.addr + 1 = s.cfg.D then 0 else s.box.addr + 1
            state := boxEmit } }

/-- 41_boxcar.md R176: the average is the sum divided by `D`, rounded toward minus infinity, and fits its field. -/
def Obligations.BoxEmitsFloorAverage : Prop :=
  ∀ s : State, Inv s → s.box.state = boxEmit →
    ∃ q : Int,
      exec .boxEmit s = .next { s with box := { s.box with out := q, state := boxWait } } ∧
      q * s.cfg.D ≤ s.box.sum ∧ s.box.sum < (q + 1) * s.cfg.D ∧ inS s.cfg.WB q

/-- 41_boxcar.md R172, R177, R178: waiting and holding change nothing; draining hands the average over and re-arms. -/
def Obligations.BoxWaitsHoldsDrains : Prop :=
  ∀ s : State,
    exec .boxWaitin s = .next s ∧ exec .boxHold s = .next s ∧
    (s.box.state = boxWait → outReady .boxOut s = true →
      exec .boxDrain s =
        .next { s with
          box := { s.box with state := boxIdle }
          env :=
            { s.env with
              taken :=
                { s.env.taken with
                  boxOut :=
                    s.env.taken.boxOut ++ [⟨s.tick, ⟨patternS s.cfg.WB s.box.out, true, true⟩⟩] } } })

/-- 41_boxcar.md R179: the four ticks from an accept carry a sample through the ring buffer, and the average they
register is that of the newest `D` samples, missing ones counting as 0. -/
def Obligations.BoxEmitsMovingAverage : Prop :=
  (∀ c : Config, holdsSamples [] (State.resetWith c)) ∧
  ∀ (s t : State) (xs : List Int),
    Inv s → s.box.state = boxIdle → boxInValid s = true → holdsSamples xs s → cleanRun 4 s = some t →
      t.box.state = boxWait ∧ holdsSamples (boxInX s :: xs) t ∧
      t.box.out * s.cfg.D ≤ windowSum s.cfg.D (boxInX s :: xs) ∧
      windowSum s.cfg.D (boxInX s :: xs) < (t.box.out + 1) * s.cfg.D

/-! ### PEAK -/

/-- 42_peak.md R202. -/
def Obligations.PeakAttackTracksInput : Prop :=
  ∀ s : State, Inv s → peakAccept s = true → peakInt s < peakX s →
    exec .peakAttack s =
      .next { s with
        peak := { peak := peakX s * 2 ^ s.cfg.point, count := 0, ov := true, y := peakX s }
        env :=
          { s.env with
            queues := { s.env.queues with peakIn := queueTaken .peakIn s }
            taken := { s.env.taken with peakOut := logAfter .peakOut s } } }

/-- 42_peak.md R203, R204. -/
def Obligations.PeakHoldsAndDecays : Prop :=
  ∀ s : State, Inv s → peakAccept s = true → peakX s ≤ peakInt s →
    (s.peak.count ≠ s.cfg.n - 1 →
      exec .peakHold s =
        .next { s with
          peak := { peak := s.peak.peak, count := s.peak.count + 1, ov := true, y := s.peak.peak / 2 ^ s.cfg.point }
          env :=
            { s.env with
              queues := { s.env.queues with peakIn := queueTaken .peakIn s }
              taken := { s.env.taken with peakOut := logAfter .peakOut s } } }) ∧
    (s.peak.count = s.cfg.n - 1 →
      exec .peakDecay s =
        .next { s with
          peak :=
            { peak := s.peak.peak - s.peak.peak / 2 ^ s.cfg.point, count := 0, ov := true
              y := s.peak.peak / 2 ^ s.cfg.point }
          env :=
            { s.env with
              queues := { s.env.queues with peakIn := queueTaken .peakIn s }
              taken := { s.env.taken with peakOut := logAfter .peakOut s } } })

/-- 42_peak.md R205, R206. -/
def Obligations.PeakKeepsAndDrains : Prop :=
  ∀ s : State,
    exec .peakKeep s = .next s ∧
    (peakAccept s = false → outReady .peakOut s = true →
      exec .peakDrain s =
        .next { s with
          peak := { s.peak with ov := false }
          env :=
            { s.env with
              taken :=
                { s.env.taken with
                  peakOut :=
                    if s.peak.ov then s.env.taken.peakOut ++ [⟨s.tick, ⟨storeU s.cfg.WP s.peak.y, true, true⟩⟩]
                    else s.env.taken.peakOut } } })

/-- 42_peak.md R208: the visible peak never rises by a decay, and falls within `2^point` of them while it is not 0. -/
def Obligations.PeakDecayLowersThePeak : Prop :=
  ∀ s : State,
    (∀ t, exec .peakDecay s = .next t → peakInt t ≤ peakInt s) ∧
    (1 ≤ peakInt s → ∃ t, repeatOp .peakDecay (2 ^ s.cfg.point) s = some t ∧ peakInt t < peakInt s)

/-! ### QNT -/

/-- 43_quantizer.md R232, R233, R235, R237: the values emitted immediately, and the slot without an accept. -/
def Obligations.QntEmitsImmediately : Prop :=
  ∀ s : State, s.qnt.state = qntIdle →
    (qntAccept s = true → (barQ s).hi ≤ (barQ s).data →
      exec .qntSathi s =
        .next { s with
          qnt := { s.qnt with v := 2 ^ s.cfg.OW - 1, f := (barQ s).first, l := (barQ s).last, ov := true }
          env := { s.env with taken := { s.env.taken with qntOut := logAfter .qntOut s } } }) ∧
    (qntAccept s = true → (barQ s).data < (barQ s).hi → (barQ s).data ≤ (barQ s).lo →
      exec .qntSatlo s =
        .next { s with
          qnt := { s.qnt with v := 0, f := (barQ s).first, l := (barQ s).last, ov := true }
          env := { s.env with taken := { s.env.taken with qntOut := logAfter .qntOut s } } }) ∧
    (qntAccept s = true → (barQ s).data < (barQ s).hi → (barQ s).lo < (barQ s).data → (barQ s).mul = 0 →
      exec .qntHalf s =
        .next { s with
          qnt := { s.qnt with v := (2 ^ s.cfg.OW - 1) / 2, f := (barQ s).first, l := (barQ s).last, ov := true }
          env := { s.env with taken := { s.env.taken with qntOut := logAfter .qntOut s } } }) ∧
    (qntAccept s = false →
      exec .qntNoacc s =
        .next { s with
          qnt := { s.qnt with ov := if outReady .qntOut s then false else s.qnt.ov }
          env := { s.env with taken := { s.env.taken with qntOut := logAfter .qntOut s } } })

/-- 43_quantizer.md R234: the operands wait exact, and the slot is empty after the accept. -/
def Obligations.QntDefersOneCycle : Prop :=
  ∀ s : State, Inv s → s.qnt.state = qntIdle → qntAccept s = true → (barQ s).data < (barQ s).hi →
    (barQ s).lo < (barQ s).data → (barQ s).mul ≠ 0 →
      exec .qntDefer s =
        .next { s with
          qnt :=
            { s.qnt with
              md := (barQ s).data - (barQ s).lo, mm := (barQ s).mul, mf := (barQ s).first, ml := (barQ s).last
              state := qntMul, ov := false }
          env := { s.env with taken := { s.env.taken with qntOut := logAfter .qntOut s } } }

/-- 43_quantizer.md R236: the multiply-shift, and the fault a full slot raises. -/
def Obligations.QntMultiplies : Prop :=
  ∀ s : State, s.qnt.state = qntMul →
    (s.qnt.ov = false →
      exec .qntMul s =
        .next { s with
          qnt :=
            { s.qnt with
              v := s.qnt.mm * s.qnt.md / 2 ^ s.cfg.shift % 2 ^ s.cfg.OW, f := s.qnt.mf, l := s.qnt.ml, ov := true
              state := qntIdle } }) ∧
    (s.qnt.ov = true → exec .qntMul s = .next { s with fault := some (.assertion .qnt 236) })

/-- 43_quantizer.md R232-R236: an accepted item gives its value, in the accepting tick or by the deferred cycle. -/
def Obligations.QntComputesTheItemsValue : Prop :=
  ∀ (s : State) (i : Instr), Inv s → qntAccept s = true → selected .qnt s = some i →
    ∃ t, exec i s = .next t ∧
      ((t.qnt.state = qntIdle ∧ t.qnt.ov = true ∧ t.qnt.f = (barQ s).first ∧ t.qnt.l = (barQ s).last ∧
          t.qnt.v = quantize s.cfg (barQ s).data (barQ s).lo (barQ s).hi (barQ s).mul) ∨
        (t.qnt.state = qntMul ∧ t.qnt.ov = false ∧
          ∃ u, exec .qntMul t = .next u ∧ u.qnt.ov = true ∧ u.qnt.f = (barQ s).first ∧ u.qnt.l = (barQ s).last ∧
            u.qnt.v = quantize s.cfg (barQ s).data (barQ s).lo (barQ s).hi (barQ s).mul))

/-- 43_quantizer.md R238, for a well-scaled segment: the range, the boundaries and monotonicity. -/
def Obligations.WellScaledSegmentIsMonotone : Prop :=
  ∀ (c : Config) (lo hi mul : Nat), c.wellFormed = true → wellScaled c lo hi mul →
    (∀ d, d ≤ lo → quantize c d lo hi mul = 0) ∧
    (∀ d, hi ≤ d → quantize c d lo hi mul = c.outputMax) ∧
    (∀ d, lo < d → d < hi →
      quantize c d lo hi mul = mul * (d - lo) / 2 ^ c.shift ∧ quantize c d lo hi mul ≤ c.outputMax - 1) ∧
    (∀ d e, d ≤ e → quantize c d lo hi mul ≤ quantize c e lo hi mul)

/-! ### BAR -/

/-- 44_bargraph.md R261-R265. -/
def Obligations.BarSequencesSegments : Prop :=
  ∀ s : State,
    (s.bar.idx < s.cfg.N →
      barQ s = ⟨s.bar.data, s.cfg.thrAt s.bar.idx, s.cfg.thrAt (s.bar.idx + 1), s.cfg.mulAt s.bar.idx,
        decide (s.bar.idx = 0), decide (s.bar.idx = s.cfg.N - 1)⟩ ∧
      exec .barPresent s = .next { s with bar := { s.bar with idx := s.bar.idx + 1 } }) ∧
    (s.bar.idx = s.cfg.N → inValid .barIn s = true →
      exec .barAccept s =
        .next { s with
          bar := { idx := 0, data := (inItem .barIn s).payload }
          env := { s.env with queues := { s.env.queues with barIn := queueTaken .barIn s } } }) ∧
    exec .barStall s = .next s ∧ exec .barWaitin s = .next s

/-- 44_bargraph.md R268: the values of one packet do not rise with the segment index, and item by item they do not fall
with the sample; below the sample's segment they are `output_max`, in it interpolated, above it 0. -/
def Obligations.PacketShape : Prop :=
  ∀ c : Config, c.wellFormed = true →
    (∀ i, i < c.N → wellScaled c (c.thrAt i) (c.thrAt (i + 1)) (c.mulAt i)) →
      (∀ d i j, i ≤ j → j < c.N → packetValue c d j ≤ packetValue c d i) ∧
      (∀ d e i, d ≤ e → i < c.N → packetValue c d i ≤ packetValue c e i) ∧
      (∀ d j, j < c.N → c.thrAt j ≤ d → d < c.thrAt (j + 1) →
        (∀ i, i < j → packetValue c d i = c.outputMax) ∧
        packetValue c d j = c.mulAt j * (d - c.thrAt j) / 2 ^ c.shift ∧
        (∀ i, j < i → i < c.N → packetValue c d i = 0)) ∧
      (∀ d i, d < c.thrAt 0 → i < c.N → packetValue c d i = 0) ∧
      (∀ d i, c.thrAt c.N ≤ d → i < c.N → packetValue c d i = c.outputMax)

/-- 44_bargraph.md R266: a sample that BAR takes from rest gives, with the consumer always ready and no other sample
offered, exactly its `N` items on `qnt_out`, in the order of the segments, framed as one packet. -/
def Obligations.SampleGivesOnePacket : Prop :=
  ∀ (s t : State) (sample : Item) (n : Nat),
    Inv s → s.env.trace = [] → s.env.queues.barIn = [sample] → s.env.sinks.qntOut = .ready →
    s.bar.idx = s.cfg.N → s.qnt.state = qntIdle → s.qnt.ov = false → 2 * s.cfg.N + 2 ≤ n → cleanRun n s = some t →
      items t.env.taken.qntOut =
        items s.env.taken.qntOut ++
          (List.range s.cfg.N).map fun i =>
            ⟨packetValue s.cfg (storeU s.cfg.IW sample.payload) i, i == 0, i == s.cfg.N - 1⟩

/-! ### KEY -/

/-- 45_key_serializer.md R292, R293, R296, R297. -/
def Obligations.KeyAcceptsAndWaits : Prop :=
  ∀ s : State,
    (Inv s → s.key.state = keyIdle → inValid .keyIn s = true →
      exec .keyAccept s =
        .next { s with
          key :=
            { s.key with
              diff := s.key.prev ^^^ (inItem .keyIn s).payload, prev := (inItem .keyIn s).payload, first := true
              state := keyCalc }
          env := { s.env with queues := { s.env.queues with keyIn := queueTaken .keyIn s } } }) ∧
    exec .keyWaitin s = .next s ∧ exec .keySendwait s = .next s ∧
    exec .keyDone s = .next { s with key := { s.key with state := keyIdle } }

/-- 45_key_serializer.md R294: the mask is the lowest set bit of `diff`. -/
def Obligations.KeyIsolatesTheLowestBit : Prop :=
  ∀ s : State, Inv s → s.key.state = keyCalc → s.key.diff ≠ 0 →
    ∃ j : Nat, j < s.cfg.K ∧ s.key.diff.testBit j = true ∧ (∀ i, i < j → s.key.diff.testBit i = false) ∧
      exec .keyIsolate s = .next { s with key := { s.key with mask := 2 ^ j, state := keySend } }

/-- 45_key_serializer.md R291, R295: the event transfers, and `diff` loses exactly the reported bit. -/
def Obligations.KeySendReportsOneBit : Prop :=
  ∀ s : State, Inv s → s.key.state = keySend → outReady .keyOut s = true →
    ∃ d : Nat,
      exec .keySend s =
        .next { s with
          key := { s.key with diff := d, first := false, state := keyCalc }
          env :=
            { s.env with
              taken :=
                { s.env.taken with
                  keyOut :=
                    s.env.taken.keyOut ++
                      [⟨s.tick, ⟨packEvent s.cfg s.key.mask (decide (s.key.mask &&& s.key.prev ≠ 0)), s.key.first,
                        decide (s.key.diff = s.key.mask)⟩⟩] } } } ∧
      ∀ i, d.testBit i = (s.key.diff.testBit i && !s.key.mask.testBit i)

/-- 45_key_serializer.md R298: a snapshot taken by an idle KEY, its consumer always ready, gives one event per changed
bit, in ascending order, correctly framed, in `2h + 2` ticks. -/
def Obligations.SnapshotGivesItsEvents : Prop :=
  ∀ (s t : State) (sample : Item) (rest : List Item),
    Inv s → s.env.trace = [] → s.env.queues.keyIn = sample :: rest → s.env.sinks.keyOut = .ready →
    s.key.state = keyIdle →
    cleanRun (2 * popcount s.cfg.K (s.key.prev ^^^ storeU s.cfg.K sample.payload) + 2) s = some t →
      t.key.state = keyIdle ∧ t.key.prev = storeU s.cfg.K sample.payload ∧ t.env.queues.keyIn = rest ∧
      items t.env.taken.keyOut =
        items s.env.taken.keyOut ++ toggleEvents s.cfg s.key.prev (storeU s.cfg.K sample.payload)

/-! ### UIK and UIO -/

/-- 46_selection.md R323-R327. -/
def Obligations.UikEntersAndCommits : Prop :=
  ∀ s : State,
    exec .uikNone s = .next s ∧
    (uikAccept s = true →
      exec .uikIgnore0 s =
        .next { s with
          ui := { s.ui with prevKeys := uiSnap s }
          env := { s.env with queues := { s.env.queues with uiKeyIn := queueTaken .uiKeyIn s } } } ∧
      exec .uikIgnore1 s =
        .next { s with
          ui := { s.ui with prevKeys := uiSnap s }
          env := { s.env with queues := { s.env.queues with uiKeyIn := queueTaken .uiKeyIn s } } } ∧
      exec .uikEnter s =
        .next { s with
          ui := { s.ui with editMode := true, edit := s.ui.channel, update := true, prevKeys := uiSnap s }
          env := { s.env with queues := { s.env.queues with uiKeyIn := queueTaken .uiKeyIn s } } } ∧
      exec .uikCommit s =
        .next { s with
          ui := { s.ui with channel := s.ui.edit, editMode := false, prevKeys := uiSnap s }
          env := { s.env with queues := { s.env.queues with uiKeyIn := queueTaken .uiKeyIn s } } })

/-- 46_selection.md R328, R329: one step up or down, wrapping at the ends. -/
def Obligations.UikStepsWrap : Prop :=
  ∀ s : State, Inv s → uikAccept s = true →
    exec .uikStepUp s =
      .next { s with
        ui :=
          { s.ui with
            edit := if s.ui.edit + 1 = s.cfg.chans then 0 else s.ui.edit + 1, update := true, prevKeys := uiSnap s }
        env := { s.env with queues := { s.env.queues with uiKeyIn := queueTaken .uiKeyIn s } } } ∧
    exec .uikStepDown s =
      .next { s with
        ui :=
          { s.ui with
            edit := if s.ui.edit = 0 then s.cfg.chans - 1 else s.ui.edit - 1, update := true, prevKeys := uiSnap s }
        env := { s.env with queues := { s.env.queues with uiKeyIn := queueTaken .uiKeyIn s } } }

/-- 46_selection.md R330, R331, R333. -/
def Obligations.UioSweepsOneFrame : Prop :=
  ∀ s : State, Inv s → uiRenderReq s = true → uiSlotFree s = true →
    (s.ui.led ≠ s.cfg.leds - 1 →
      exec .uioRstep s =
        .next { s with
          ui :=
            { s.ui with
              frame :=
                ⟨s.ui.led, if s.ui.led = s.ui.channel then s.cfg.bright else 0,
                  if s.ui.led = s.ui.edit then s.cfg.bright else 0, 0, decide (s.ui.led = 0), false⟩
              ov := true
              led := s.ui.led + 1 }
          env := { s.env with taken := { s.env.taken with uiOut := logAfter .uiOut s } } }) ∧
    (s.ui.led = s.cfg.leds - 1 →
      exec .uioRlast s =
        .next { s with
          ui :=
            { s.ui with
              frame :=
                ⟨s.ui.led, if s.ui.led = s.ui.channel then s.cfg.bright else 0,
                  if s.ui.led = s.ui.edit then s.cfg.bright else 0, 0, decide (s.ui.led = 0), true⟩
              ov := true
              led := 0
              update := false }
          env := { s.env with taken := { s.env.taken with uiOut := logAfter .uiOut s } } })

/-- 46_selection.md R332, R334-R336. -/
def Obligations.UioPassesAndDrains : Prop :=
  ∀ s : State,
    exec .uioRstall s = .next s ∧ exec .uioKeep s = .next s ∧
    (uiRenderReq s = false → uiSlotFree s = true →
      (inValid .uiPtIn s = true →
        exec .uioPass s =
          .next { s with
            ui := { s.ui with frame := ptFrame s, ov := true }
            env :=
              { s.env with
                queues := { s.env.queues with uiPtIn := queueTaken .uiPtIn s }
                taken := { s.env.taken with uiOut := logAfter .uiOut s } } } ∧
        packLed s.cfg (ptFrame s).addr (ptFrame s).red (ptFrame s).green (ptFrame s).blue =
          (inItem .uiPtIn s).payload ∧
        (ptFrame s).first = (inItem .uiPtIn s).first ∧ (ptFrame s).last = (inItem .uiPtIn s).last) ∧
      (inValid .uiPtIn s = false →
        exec .uioDrain s =
          .next { s with
            ui := { s.ui with ov := false }
            env := { s.env with taken := { s.env.taken with uiOut := logAfter .uiOut s } } }))

/-- 46_selection.md R338, R339: a triggered sweep, its consumer always ready, loads its `leds` frames in the next `leds`
ticks, in order and undisturbed, and takes neither a key snapshot nor a pass-through frame while it runs. -/
def Obligations.SweepEmitsEveryFrame : Prop :=
  ∀ (s t : State) (m : Nat),
    Inv s → s.env.trace = [] → s.env.sinks.uiOut = .ready → s.ui.update = true → s.ui.led = 0 →
    1 ≤ m → m ≤ s.cfg.leds → cleanRun m s = some t →
      t.ui.channel = s.ui.channel ∧ t.ui.edit = s.ui.edit ∧
      t.env.queues.uiKeyIn = s.env.queues.uiKeyIn ∧ t.env.queues.uiPtIn = s.env.queues.uiPtIn ∧
      t.ui.led = (if m = s.cfg.leds then 0 else m) ∧ t.ui.update = decide (m ≠ s.cfg.leds) ∧
      outValid .uiOut t = true ∧ outItem .uiOut t = sweepItem s.cfg s.ui.channel s.ui.edit (m - 1) ∧
      items t.env.taken.uiOut =
        items s.env.taken.uiOut ++ (if s.ui.ov then [outItem .uiOut s] else []) ++
          (List.range (m - 1)).map (sweepItem s.cfg s.ui.channel s.ui.edit)

/-- 46_selection.md R337: the halves do not clash. -/
def Obligations.HalvesDoNotClash : Prop :=
  ∀ s : State, uikAccept s = true →
    uiRenderReq s = false ∧ selected .uio s ≠ some .uioRstep ∧ selected .uio s ≠ some .uioRlast ∧
      selected .uio s ≠ some .uioRstall

/-- 10_state.md R34: `ui.channel` changes only by a commit, `ui.edit` only on entering edit mode or on a step. -/
def Obligations.SelectionChangesOnlyByKeys : Prop :=
  ∀ s t : State, step s = .next t →
    (t.ui.channel ≠ s.ui.channel →
      selected .uik s = some .uikCommit ∧ t.ui.channel = s.ui.edit ∧ t.ui.editMode = false) ∧
    (t.ui.edit ≠ s.ui.edit →
      selected .uik s = some .uikEnter ∨
        s.ui.editMode = true ∧ (selected .uik s = some .uikStepUp ∨ selected .uik s = some .uikStepDown))

/-! ### The tick -/

/-- 20_memory.md R76, 00_scope.md R11, 30_encoding.md R110: a step of a machine that is not halted runs, for each unit,
the operation its selector word decodes to, each from the registers at the start of the tick, and all their writes
take effect together. The last clause, that a failed check of the registers they leave is recorded instead, is the model's
choice: R373 allows the checks and does not ask for them (log 7), and which failed check is recorded is log 8's and
log 20's. How the two halves of the selection controller merge `ui.update` is read from R320 and R337 (log 10). -/
def Obligations.StepRunsSelectedOperations : Prop :=
  ∀ (s : State) (op : UnitId → Instr) (after : UnitId → State),
    s.fault = none → envKeeps s = true → (∀ u, selected u s = some (op u)) →
    (∀ u, exec (op u) s = .next (after u)) → (∀ u, (after u).fault = none) →
    (failedAssertion (commit s after) = none →
      ∃ t, step s = .next t ∧ t.cfg = s.cfg ∧ t.fault = none ∧ t.tick = s.tick + 1 ∧
        t.box = (after .box).box ∧ t.peak = (after .peak).peak ∧ t.qnt = (after .qnt).qnt ∧
        t.bar = (after .bar).bar ∧ t.key = (after .key).key ∧
        t.ui.channel = (after .uik).ui.channel ∧ t.ui.edit = (after .uik).ui.edit ∧
        t.ui.editMode = (after .uik).ui.editMode ∧ t.ui.prevKeys = (after .uik).ui.prevKeys ∧
        t.ui.led = (after .uio).ui.led ∧ t.ui.ov = (after .uio).ui.ov ∧ t.ui.frame = (after .uio).ui.frame ∧
        t.ui.update = (if s.ui.update then (after .uio).ui.update else (after .uik).ui.update) ∧
        t.env.trace = s.env.trace.tail ∧ t.env.sinks = s.env.sinks ∧ t.env.idle = s.env.idle) ∧
    (∀ f, failedAssertion (commit s after) = some f → step s = .next { s with fault := some f })

/-- 20_memory.md R71, R78, R86: in a tick without a fault, an item moves on a port exactly when `valid` and `ready` are
both true: the producer's queue loses its head, the consumer's log gains the item presented, and no other port's
queue or log changes. -/
def Obligations.TransfersFollowTheHandshake : Prop :=
  ∀ s t : State, step s = .next t → t.fault = none →
    (∀ p, t.env.queues.get p = if inXfer p s then queueTaken p s else s.env.queues.get p) ∧
    (∀ p, t.env.taken.get p = if outXfer p s then logGiven p s else s.env.taken.get p)

/-- 20_memory.md R73, R74: once the CORE offers an item on an output port, it keeps offering that item, unchanged, until
the tick of its transfer. -/
def Obligations.OutputsAreHeldUntilTaken : Prop :=
  ∀ s t : State, Inv s → step s = .next t → ∀ p : OutPort, outValid p s = true → outReady p s = false →
    outValid p t = true ∧ outItem p t = outItem p s

/-- 60_exceptions.md R371, the monitor: after a tick without a fault it holds the offer that is still pending. -/
def Obligations.MonitorsRecordPendingOffers : Prop :=
  ∀ s t : State, step s = .next t → t.fault = none → ∀ p : InPort,
    (t.mon.get p).pending = (inValid p s && !inReady p s) ∧
    (inValid p s = true → inReady p s = false → (t.mon.get p).item = inItem p s)

/-- 30_encoding.md R137: the offers of a stimulus script meet the producer obligation of 20_memory.md R73, tick after
tick. -/
def Obligations.ScriptedOffersKeepTheObligation : Prop :=
  ∀ s : State, s.env.trace = [] →
    (∀ p, (s.mon.get p).pending = true → inValid p s = true ∧ (s.mon.get p).item = inItem p s) →
      envKeeps s = true ∧
      ∀ t, step s = .next t → t.fault = none →
        t.env.trace = [] ∧ ∀ p, (t.mon.get p).pending = true → inValid p t = true ∧ (t.mon.get p).item = inItem p t

/-- 93_implementation_defined.md I5, 30_encoding.md R132: what a scripted input port carries while its `valid` is 0
changes nothing but itself. -/
def Obligations.IdlePayloadsAreNeverRead : Prop :=
  ∀ (s : State) (x : InPorts Item), s.env.trace = [] →
    match step s, step (withIdle x s) with
    | .next t, .next t' => t' = withIdle x t
    | .fault f, .fault f' => f' = f
    | .refused r, .refused r' => r' = r
    | _, _ => False

/-! ### Invariants -/

/-- 70_reset_and_hazards.md R400, R405: a configuration that passes the check boots into a good state, at tick 0 and
without a fault; so does the state after reset that the model names (its configuration is the model's choice, log 1). -/
def Obligations.BootGivesAGoodState : Prop :=
  (∀ c : Config, c.wellFormed = true → boot c = .next (State.resetWith c) ∧ Inv (State.resetWith c)) ∧
  Inv State.reset ∧ boot State.reset.cfg = .next State.reset

/-- 10_state.md R24-R34: every step from a good state leads to a good state. -/
def Obligations.StepKeepsTheInvariant : Prop :=
  ∀ s t : State, Inv s → step s = .next t → Inv t

/-- 60_exceptions.md R372, R373: from a good state, a tick in which the environment meets its obligation runs without
any fault: no reachable state raises `F_ILLEGAL_STATE` or `F_ASSERT`. -/
def Obligations.GoodStatesRunWithoutFault : Prop :=
  ∀ s : State, Inv s → s.fault = none → envKeeps s = true → ∃ t, step s = .next t ∧ t.fault = none

/-- 10_state.md R22: no step changes the configuration. -/
def Obligations.StepKeepsTheConfiguration : Prop :=
  ∀ s t : State, step s = .next t → t.cfg = s.cfg

/-! ### Faults, reset, configuration -/

/-- 60_exceptions.md R371, R375, R378, R379: a broken producer obligation is recorded with the port and the tick, before
anything else of the tick, and nothing of the tick is written. -/
def Obligations.BrokenObligationFaults : Prop :=
  ∀ (s : State) (p : InPort), s.fault = none → breaches s p = true → (∀ q, q ≠ p → breaches s q = false) →
    step s = .next { s with fault := some (.envProtocol p s.tick) }

/-- 60_exceptions.md R372, R375: a unit whose selector word matches no row is recorded with the word, and nothing of the
tick is written. -/
def Obligations.IllegalSelectorFaults : Prop :=
  ∀ (s : State) (u : UnitId), s.fault = none → envKeeps s = true → selected u s = none →
    (∀ v, v ≠ u → (selected v s).isSome) → step s = .next { s with fault := some (.illegalState u (selector u s)) }

/-- An access to a ring-buffer index that does not exist (20_memory.md R81) stops under a name of the model's own (the
model's choice, log 9); no good state makes one. -/
def Obligations.RingIndexOutsideTheBufferStops : Prop :=
  ∀ s : State,
    (s.cfg.D ≤ s.box.addr →
      exec .boxAccept s = .fault (.ringIndex s.box.addr) ∧ exec .boxWrite s = .fault (.ringIndex s.box.addr)) ∧
    (Inv s → s.box.addr < s.cfg.D)

/-- 60_exceptions.md R375, R376: a halted model answers the same fault at every step, and reset ends the halt. -/
def Obligations.HaltLastsUntilReset : Prop :=
  ∀ (s : State) (f : FaultRecord), s.fault = some f →
    step s = .fault (.halted f) ∧ (applyReset s).fault = none ∧ (applyReset s).tick = 0 ∧
    (∀ p, ((applyReset s).mon.get p).pending = false) ∧
    (applyReset s).box = (State.resetWith s.cfg).box ∧ (applyReset s).peak = (State.resetWith s.cfg).peak ∧
    (applyReset s).qnt = (State.resetWith s.cfg).qnt ∧ (applyReset s).bar = (State.resetWith s.cfg).bar ∧
    (applyReset s).key = (State.resetWith s.cfg).key ∧ (applyReset s).ui = (State.resetWith s.cfg).ui

/-- 70_reset_and_hazards.md R400. -/
def Obligations.ResetSetsEveryRegister : Prop :=
  ∀ c : Config,
    (State.resetWith c).box = ⟨0, 0, 0, 0, 0, 0, 0, []⟩ ∧ (∀ a, (State.resetWith c).box.buf.read a = 0) ∧
    (State.resetWith c).peak = ⟨0, 0, false, 0⟩ ∧
    (State.resetWith c).qnt = ⟨0, false, 0, false, false, 0, 0, false, false⟩ ∧
    (State.resetWith c).bar = ⟨c.N, 0⟩ ∧ (State.resetWith c).key = ⟨0, 0, 0, 0, false⟩ ∧
    (State.resetWith c).ui = ⟨0, 0, false, 0, 0, false, false, ⟨0, 0, 0, 0, false, false⟩⟩ ∧
    (State.resetWith c).fault = none ∧ (∀ p, ((State.resetWith c).mon.get p).pending = false) ∧
    (State.resetWith c).tick = 0

/-- 70_reset_and_hazards.md R402, R403, 46_selection.md R340: the ports in tick 0, before any input, and `ui_sel`. -/
def Obligations.PortsAfterReset : Prop :=
  ∀ c : Config,
    (∀ p, inReady p (State.resetWith c) = true) ∧ (∀ p, outValid p (State.resetWith c) = false) ∧
    uiSel (State.resetWith c) = 0 ∧
    ∀ s : State, Inv s → uiSel s = s.ui.channel

/-- 70_reset_and_hazards.md R405 with 00_scope.md R7: exactly these conditions are checked, a configuration that fails one
is refused, and the refusal names the checks it failed. The lengths of the tables in `C_N` and `1 ≤ AW` in `C_UI` are
read from R7 (the model's placing, log 14 and log 19). -/
def Obligations.ConfigurationCheck : Prop :=
  ∀ c : Config,
    (c.wellFormed = true ↔
      (1 ≤ c.WR ∧ c.WR + 1 ≤ c.WB) ∧ (∃ k, c.D = 2 ^ k) ∧ c.S = c.WB + c.k + 1 ∧ (1 ≤ c.WP ∧ 1 ≤ c.n) ∧
      (1 ≤ c.OW ∧ c.OW + 1 ≤ c.IW) ∧ (1 ≤ c.N ∧ c.thr.length = c.N + 1 ∧ c.mul.length = c.N) ∧
      ((∀ i, i < c.N → c.thrAt i < c.thrAt (i + 1)) ∧ c.thrAt c.N < 2 ^ c.IW) ∧
      (∀ i, i < c.N → c.mulAt i ≠ 0) ∧ (1 ≤ c.MW ∧ ∀ i, i < c.N → c.mulAt i < 2 ^ c.MW) ∧ 1 ≤ c.K ∧
      (1 ≤ c.KU ∧ c.swBit ≠ c.aBit ∧ c.swBit ≠ c.bBit ∧ c.aBit ≠ c.bBit ∧ c.swBit < c.KU ∧ c.aBit < c.KU ∧
        c.bBit < c.KU) ∧
      (1 ≤ c.chans ∧ 1 ≤ c.leds ∧ c.leds ≤ 2 ^ c.AW ∧ c.chans ≤ 2 ^ c.CHW ∧ 1 ≤ c.AW) ∧
      (1 ≤ c.CW ∧ c.bright < 2 ^ c.CW)) ∧
    (c.wellFormed = false → boot c = .refused (.configuration c.failedChecks) ∧ c.failedChecks ≠ []) ∧
    (∀ k, k ∈ c.failedChecks ↔ k.passes c = false)
end

