-- ==== Sys2Proof/Laws/Fields.lean ====
section
/-! SUPPORT. Fields: a store fits its field, and keeps a value that fits. -/

namespace Sys2Proof.Machine

theorem two_pow_pos_int (w : Nat) : (0 : Int) < 2 ^ w := by positivity

theorem storeU_lt (w v : Nat) : inU w (storeU w v) := Nat.mod_lt _ (Nat.two_pow_pos w)

theorem storeU_of_inU {w v : Nat} (h : inU w v) : storeU w v = v := Nat.mod_eq_of_lt h

theorem storeU_le (w v : Nat) : storeU w v ≤ v := Nat.mod_le _ _

@[simp] theorem storeU_zero (w : Nat) : storeU w 0 = 0 := Nat.zero_mod _

@[simp] theorem storeU_storeU (w v : Nat) : storeU w (storeU w v) = storeU w v :=
  storeU_of_inU (storeU_lt w v)

theorem two_pow_split {w : Nat} (h : 1 ≤ w) : (2 : Int) ^ w = 2 * 2 ^ (w - 1) := by
  obtain ⟨k, rfl⟩ : ∃ k, w = k + 1 := ⟨w - 1, by omega⟩
  simp [pow_succ]; ring

theorem storeS_of_inS {w : Nat} {v : Int} (hw : 1 ≤ w) (h : inS w v) : storeS w v = v := by
  have e := two_pow_split hw
  obtain ⟨h1, h2⟩ := h
  unfold storeS
  have hc : ((2 ^ w : Nat) : Int) = 2 ^ w := by push_cast; rfl
  rw [Int.bmod_eq_of_le] <;> rw [hc, e] <;> omega

theorem storeS_inS {w : Nat} (hw : 1 ≤ w) (v : Int) : inS w (storeS w v) := by
  have e := two_pow_split hw
  have hc : ((2 ^ w : Nat) : Int) = 2 ^ w := by push_cast; rfl
  have hp : 0 < 2 ^ w := Nat.two_pow_pos w
  have l := Int.le_bmod (x := v) hp
  have u := Int.bmod_lt (x := v) hp
  rw [hc, e] at l u
  refine ⟨?_, ?_⟩ <;> unfold storeS <;> omega

theorem inS_zero (w : Nat) : inS w 0 := by
  have := two_pow_pos_int (w - 1)
  constructor <;> omega

theorem inS_mono {w w' : Nat} {v : Int} (hw : w ≤ w') (h : inS w v) : inS w' v := by
  have : (2 : Int) ^ (w - 1) ≤ 2 ^ (w' - 1) := pow_le_pow_right₀ (by norm_num) (by omega)
  obtain ⟨h1, h2⟩ := h
  constructor <;> omega

theorem readS_of_lt {w p : Nat} (h : p < 2 ^ (w - 1)) : readS w p = p := by
  simp [readS, Nat.testBit_lt_two_pow h]

theorem readS_inS {w p : Nat} (hw : 1 ≤ w) (h : inU w p) : inS w (readS w p) := by
  have e := two_pow_split hw
  have hc : ((2 ^ (w - 1) : Nat) : Int) = 2 ^ (w - 1) := by push_cast; rfl
  have en : 2 ^ w = 2 * 2 ^ (w - 1) := by
    obtain ⟨k, rfl⟩ : ∃ k, w = k + 1 := ⟨w - 1, by omega⟩
    simp [pow_succ]; ring
  have h' : p < 2 * 2 ^ (w - 1) := en ▸ h
  unfold readS
  split
  · next hb =>
    have : 2 ^ (w - 1) ≤ p := Nat.ge_two_pow_of_testBit hb
    constructor <;> rw [e] <;> omega
  · next hb =>
    have : p < 2 ^ (w - 1) := by
      by_contra hc'
      have hle : 2 ^ (w - 1) ≤ p := not_lt.mp hc'
      apply hb
      have : p = 2 ^ (w - 1) + (p - 2 ^ (w - 1)) := by omega
      rw [this, Nat.testBit_two_pow_add_eq]
      simp [Nat.testBit_lt_two_pow (show p - 2 ^ (w - 1) < 2 ^ (w - 1) by omega)]
    constructor <;> omega

theorem clog2_spec (v : Nat) : v ≤ 2 ^ clog2 v := by
  unfold clog2
  split
  · simpa using ‹v ≤ 1›
  · have h := Nat.lt_log2_self (n := v - 1)
    omega

theorem Config.D_eq {c : Config} (h : c.wellFormed = true) : c.D = 2 ^ c.k := by
  have : c.okDPow2 = true := by
    simp only [Config.wellFormed, Check.all, List.all_cons, Bool.and_eq_true] at h
    exact h.2.1
  simpa [Config.okDPow2] using this

end Sys2Proof.Machine
end

