-- ==== Sys2Proof/Laws/Memory.lean ====
section
/-! SUPPORT. The ring buffer: what a read gives after a write, the canonical form kept, and the sum of its words. -/

namespace Sys2Proof.Machine

theorem Memory.wf_tail {e : Nat × Int} {m : Memory} (h : Memory.wf (e :: m) = true) : Memory.wf m = true := by
  obtain ⟨a, v⟩ := e
  cases m with
  | nil => rfl
  | cons f m => obtain ⟨b, w⟩ := f; simp [Memory.wf] at h; exact h.2

theorem Memory.wf_head {a : Nat} {v : Int} {m : Memory} (h : Memory.wf ((a, v) :: m) = true) :
    v ≠ Memory.unlisted ∧ ∀ e ∈ m, a < e.1 := by
  induction m generalizing a v with
  | nil => simpa [Memory.wf] using h
  | cons f m ih =>
    obtain ⟨b, w⟩ := f
    simp only [Memory.wf, Bool.and_eq_true, bne_iff_ne, decide_eq_true_eq] at h
    refine ⟨h.1.1, fun e he => ?_⟩
    rcases List.mem_cons.mp he with rfl | he
    · exact h.1.2
    · exact lt_trans h.1.2 ((ih h.2).2 e he)

theorem Memory.wf_cons {a : Nat} {v : Int} {m : Memory} (hv : v ≠ Memory.unlisted) (ha : ∀ e ∈ m, a < e.1)
    (hm : Memory.wf m = true) : Memory.wf ((a, v) :: m) = true := by
  cases m with
  | nil => simpa [Memory.wf] using hv
  | cons f m =>
    obtain ⟨b, w⟩ := f
    have hab : a < b := ha (b, w) (by simp)
    simp only [Memory.wf, Bool.and_eq_true, bne_iff_ne, decide_eq_true_eq]
    exact ⟨⟨hv, hab⟩, hm⟩

/-- Every index of a written buffer was listed before or is the one written. -/
theorem Memory.mem_write {m : Memory} {a : Nat} {v : Int} {e : Nat × Int} (h : e ∈ Memory.write m a v) :
    e = (a, v) ∨ e ∈ m := by
  induction m with
  | nil => simp only [Memory.write] at h; split at h <;> simp_all
  | cons f m ih =>
    obtain ⟨b, w⟩ := f
    simp only [Memory.write] at h
    split at h
    · split at h <;> simp_all
    · split at h
      · split at h <;> simp_all
        rcases h with h | h <;> simp_all
      · rcases List.mem_cons.mp h with rfl | h
        · simp
        · rcases ih h with h | h <;> simp [h]

/-- Every memory operation keeps the canonical form: a write does. -/
theorem Memory.wf_write {m : Memory} (a : Nat) (v : Int) (h : Memory.wf m = true) :
    Memory.wf (Memory.write m a v) = true := by
  induction m with
  | nil => simp only [Memory.write]; split <;> simp_all [Memory.wf]
  | cons f m ih =>
    obtain ⟨b, w⟩ := f
    have ht := Memory.wf_tail h
    obtain ⟨hw, hb⟩ := Memory.wf_head h
    simp only [Memory.write]
    split
    · next hlt =>
      split
      · exact h
      · next hv =>
        refine Memory.wf_cons hv ?_ h
        intro e he
        rcases List.mem_cons.mp he with rfl | he
        · exact hlt
        · exact lt_trans hlt (hb e he)
    · split
      · next heq =>
        subst heq
        split
        · exact ht
        · next hv => exact Memory.wf_cons hv hb ht
      · refine Memory.wf_cons hw ?_ (ih ht)
        intro e he
        rcases Memory.mem_write he with rfl | he
        · simp; omega
        · exact hb e he

theorem Memory.read_of_lt {m : Memory} {a : Nat} (h : ∀ e ∈ m, a < e.1) : Memory.read m a = Memory.unlisted := by
  induction m with
  | nil => rfl
  | cons f m ih =>
    obtain ⟨b, w⟩ := f
    have : a < b := h (b, w) (by simp)
    simp only [Memory.read]
    rw [if_neg (by omega)]
    exact ih (fun e he => h e (by simp [he]))

/-- A read after a write, of a canonical buffer: the value written at its index, elsewhere what was there. -/
theorem Memory.read_write {m : Memory} (a : Nat) (v : Int) (i : Nat) (h : Memory.wf m = true) :
    Memory.read (Memory.write m a v) i = if i = a then v else Memory.read m i := by
  induction m with
  | nil =>
    simp only [Memory.write]
    split <;> simp_all [Memory.read]
  | cons f m ih =>
    obtain ⟨b, w⟩ := f
    have ht := Memory.wf_tail h
    obtain ⟨hw, hb⟩ := Memory.wf_head h
    simp only [Memory.write]
    split
    · next hlt =>
      split
      · next hv =>
        split
        · next hi =>
          subst hi
          rw [hv, Memory.read_of_lt]
          intro e he
          rcases List.mem_cons.mp he with rfl | he
          · exact hlt
          · exact lt_trans hlt (hb e he)
        · rfl
      · simp [Memory.read]
    · split
      · next heq =>
        subst heq
        split
        · next hv =>
          split
          · next hi => subst hi; rw [hv, Memory.read_of_lt hb]
          · next hi => simp [Memory.read, hi]
        · simp only [Memory.read]; split <;> simp_all
      · next hne =>
        simp only [Memory.read, ih ht]
        split
        · next hi => rw [if_neg (by omega)]
        · rfl

@[simp] theorem Memory.read_write_same {m : Memory} (a : Nat) (v : Int) (h : Memory.wf m = true) :
    Memory.read (Memory.write m a v) a = v := by simp [Memory.read_write a v a h]

theorem Memory.read_write_other {m : Memory} {a i : Nat} (v : Int) (h : Memory.wf m = true) (hi : i ≠ a) :
    Memory.read (Memory.write m a v) i = Memory.read m i := by simp [Memory.read_write a v i h, hi]

/-- A word that is read is listed or the unlisted value. -/
theorem Memory.read_mem (m : Memory) (a : Nat) : Memory.read m a = Memory.unlisted ∨ (a, Memory.read m a) ∈ m := by
  induction m with
  | nil => exact .inl rfl
  | cons f m ih =>
    obtain ⟨b, w⟩ := f
    simp only [Memory.read]
    split
    · next h => subst h; right; simp
    · rcases ih with h | h
      · exact .inl h
      · right; simp [h]

theorem sum_map_update {f g : Nat → Int} {D a : Nat} (ha : a < D) (h : ∀ i, i ≠ a → g i = f i) :
    ((List.range D).map g).sum = ((List.range D).map f).sum - f a + g a := by
  induction D with
  | zero => omega
  | succ n ih =>
    simp only [List.range_succ, List.map_append, List.sum_append, List.map_cons, List.map_nil, List.sum_cons,
      List.sum_nil, add_zero]
    by_cases hn : a = n
    · subst hn
      have : (List.range a).map g = (List.range a).map f := by
        apply List.map_congr_left
        intro i hi
        exact h i (by have := List.mem_range.mp hi; omega)
      rw [this]; ring
    · rw [ih (by omega), h n (Ne.symm hn)]; ring

/-- The sum of the words after one is written: the old word leaves it, the new one enters (10_state.md R25). -/
theorem Memory.total_write {m : Memory} {D a : Nat} (v : Int) (h : Memory.wf m = true) (ha : a < D) :
    Memory.total (Memory.write m a v) D = Memory.total m D - Memory.read m a + v := by
  unfold Memory.total
  rw [sum_map_update ha (fun i hi => Memory.read_write_other v h hi), Memory.read_write_same a v h]

theorem Memory.total_nil (D : Nat) : Memory.total [] D = 0 := by
  simp [Memory.total, Memory.read]

end Sys2Proof.Machine
end

