-- ==== Sys2Proof/Laws/State.lean ====
section
/-! SUPPORT. The fields of a state after each update of Machine/Ops.lean: one lemma per field per update. -/

namespace Sys2Proof.Machine

@[simp] theorem State.setBox_cfg (s : State) (x : Box) : (s.setBox x).cfg = s.cfg := rfl
@[simp] theorem State.setBox_box (s : State) (x : Box) : (s.setBox x).box = x := rfl
@[simp] theorem State.setBox_peak (s : State) (x : Box) : (s.setBox x).peak = s.peak := rfl
@[simp] theorem State.setBox_qnt (s : State) (x : Box) : (s.setBox x).qnt = s.qnt := rfl
@[simp] theorem State.setBox_bar (s : State) (x : Box) : (s.setBox x).bar = s.bar := rfl
@[simp] theorem State.setBox_key (s : State) (x : Box) : (s.setBox x).key = s.key := rfl
@[simp] theorem State.setBox_ui (s : State) (x : Box) : (s.setBox x).ui = s.ui := rfl
@[simp] theorem State.setBox_fault (s : State) (x : Box) : (s.setBox x).fault = s.fault := rfl
@[simp] theorem State.setBox_mon (s : State) (x : Box) : (s.setBox x).mon = s.mon := rfl
@[simp] theorem State.setBox_tick (s : State) (x : Box) : (s.setBox x).tick = s.tick := rfl
@[simp] theorem State.setBox_env (s : State) (x : Box) : (s.setBox x).env = s.env := rfl

@[simp] theorem State.setPeak_cfg (s : State) (x : Peak) : (s.setPeak x).cfg = s.cfg := rfl
@[simp] theorem State.setPeak_box (s : State) (x : Peak) : (s.setPeak x).box = s.box := rfl
@[simp] theorem State.setPeak_peak (s : State) (x : Peak) : (s.setPeak x).peak = x := rfl
@[simp] theorem State.setPeak_qnt (s : State) (x : Peak) : (s.setPeak x).qnt = s.qnt := rfl
@[simp] theorem State.setPeak_bar (s : State) (x : Peak) : (s.setPeak x).bar = s.bar := rfl
@[simp] theorem State.setPeak_key (s : State) (x : Peak) : (s.setPeak x).key = s.key := rfl
@[simp] theorem State.setPeak_ui (s : State) (x : Peak) : (s.setPeak x).ui = s.ui := rfl
@[simp] theorem State.setPeak_fault (s : State) (x : Peak) : (s.setPeak x).fault = s.fault := rfl
@[simp] theorem State.setPeak_mon (s : State) (x : Peak) : (s.setPeak x).mon = s.mon := rfl
@[simp] theorem State.setPeak_tick (s : State) (x : Peak) : (s.setPeak x).tick = s.tick := rfl
@[simp] theorem State.setPeak_env (s : State) (x : Peak) : (s.setPeak x).env = s.env := rfl

@[simp] theorem State.setQnt_cfg (s : State) (x : Qnt) : (s.setQnt x).cfg = s.cfg := rfl
@[simp] theorem State.setQnt_box (s : State) (x : Qnt) : (s.setQnt x).box = s.box := rfl
@[simp] theorem State.setQnt_peak (s : State) (x : Qnt) : (s.setQnt x).peak = s.peak := rfl
@[simp] theorem State.setQnt_qnt (s : State) (x : Qnt) : (s.setQnt x).qnt = x := rfl
@[simp] theorem State.setQnt_bar (s : State) (x : Qnt) : (s.setQnt x).bar = s.bar := rfl
@[simp] theorem State.setQnt_key (s : State) (x : Qnt) : (s.setQnt x).key = s.key := rfl
@[simp] theorem State.setQnt_ui (s : State) (x : Qnt) : (s.setQnt x).ui = s.ui := rfl
@[simp] theorem State.setQnt_fault (s : State) (x : Qnt) : (s.setQnt x).fault = s.fault := rfl
@[simp] theorem State.setQnt_mon (s : State) (x : Qnt) : (s.setQnt x).mon = s.mon := rfl
@[simp] theorem State.setQnt_tick (s : State) (x : Qnt) : (s.setQnt x).tick = s.tick := rfl
@[simp] theorem State.setQnt_env (s : State) (x : Qnt) : (s.setQnt x).env = s.env := rfl

@[simp] theorem State.setBar_cfg (s : State) (x : Bar) : (s.setBar x).cfg = s.cfg := rfl
@[simp] theorem State.setBar_box (s : State) (x : Bar) : (s.setBar x).box = s.box := rfl
@[simp] theorem State.setBar_peak (s : State) (x : Bar) : (s.setBar x).peak = s.peak := rfl
@[simp] theorem State.setBar_qnt (s : State) (x : Bar) : (s.setBar x).qnt = s.qnt := rfl
@[simp] theorem State.setBar_bar (s : State) (x : Bar) : (s.setBar x).bar = x := rfl
@[simp] theorem State.setBar_key (s : State) (x : Bar) : (s.setBar x).key = s.key := rfl
@[simp] theorem State.setBar_ui (s : State) (x : Bar) : (s.setBar x).ui = s.ui := rfl
@[simp] theorem State.setBar_fault (s : State) (x : Bar) : (s.setBar x).fault = s.fault := rfl
@[simp] theorem State.setBar_mon (s : State) (x : Bar) : (s.setBar x).mon = s.mon := rfl
@[simp] theorem State.setBar_tick (s : State) (x : Bar) : (s.setBar x).tick = s.tick := rfl
@[simp] theorem State.setBar_env (s : State) (x : Bar) : (s.setBar x).env = s.env := rfl

@[simp] theorem State.setKey_cfg (s : State) (x : Key) : (s.setKey x).cfg = s.cfg := rfl
@[simp] theorem State.setKey_box (s : State) (x : Key) : (s.setKey x).box = s.box := rfl
@[simp] theorem State.setKey_peak (s : State) (x : Key) : (s.setKey x).peak = s.peak := rfl
@[simp] theorem State.setKey_qnt (s : State) (x : Key) : (s.setKey x).qnt = s.qnt := rfl
@[simp] theorem State.setKey_bar (s : State) (x : Key) : (s.setKey x).bar = s.bar := rfl
@[simp] theorem State.setKey_key (s : State) (x : Key) : (s.setKey x).key = x := rfl
@[simp] theorem State.setKey_ui (s : State) (x : Key) : (s.setKey x).ui = s.ui := rfl
@[simp] theorem State.setKey_fault (s : State) (x : Key) : (s.setKey x).fault = s.fault := rfl
@[simp] theorem State.setKey_mon (s : State) (x : Key) : (s.setKey x).mon = s.mon := rfl
@[simp] theorem State.setKey_tick (s : State) (x : Key) : (s.setKey x).tick = s.tick := rfl
@[simp] theorem State.setKey_env (s : State) (x : Key) : (s.setKey x).env = s.env := rfl

@[simp] theorem State.setUi_cfg (s : State) (x : Ui) : (s.setUi x).cfg = s.cfg := rfl
@[simp] theorem State.setUi_box (s : State) (x : Ui) : (s.setUi x).box = s.box := rfl
@[simp] theorem State.setUi_peak (s : State) (x : Ui) : (s.setUi x).peak = s.peak := rfl
@[simp] theorem State.setUi_qnt (s : State) (x : Ui) : (s.setUi x).qnt = s.qnt := rfl
@[simp] theorem State.setUi_bar (s : State) (x : Ui) : (s.setUi x).bar = s.bar := rfl
@[simp] theorem State.setUi_key (s : State) (x : Ui) : (s.setUi x).key = s.key := rfl
@[simp] theorem State.setUi_ui (s : State) (x : Ui) : (s.setUi x).ui = x := rfl
@[simp] theorem State.setUi_fault (s : State) (x : Ui) : (s.setUi x).fault = s.fault := rfl
@[simp] theorem State.setUi_mon (s : State) (x : Ui) : (s.setUi x).mon = s.mon := rfl
@[simp] theorem State.setUi_tick (s : State) (x : Ui) : (s.setUi x).tick = s.tick := rfl
@[simp] theorem State.setUi_env (s : State) (x : Ui) : (s.setUi x).env = s.env := rfl

@[simp] theorem State.setFault_cfg (s : State) (x : Option FaultRecord) : (s.setFault x).cfg = s.cfg := rfl
@[simp] theorem State.setFault_box (s : State) (x : Option FaultRecord) : (s.setFault x).box = s.box := rfl
@[simp] theorem State.setFault_peak (s : State) (x : Option FaultRecord) : (s.setFault x).peak = s.peak := rfl
@[simp] theorem State.setFault_qnt (s : State) (x : Option FaultRecord) : (s.setFault x).qnt = s.qnt := rfl
@[simp] theorem State.setFault_bar (s : State) (x : Option FaultRecord) : (s.setFault x).bar = s.bar := rfl
@[simp] theorem State.setFault_key (s : State) (x : Option FaultRecord) : (s.setFault x).key = s.key := rfl
@[simp] theorem State.setFault_ui (s : State) (x : Option FaultRecord) : (s.setFault x).ui = s.ui := rfl
@[simp] theorem State.setFault_fault (s : State) (x : Option FaultRecord) : (s.setFault x).fault = x := rfl
@[simp] theorem State.setFault_mon (s : State) (x : Option FaultRecord) : (s.setFault x).mon = s.mon := rfl
@[simp] theorem State.setFault_tick (s : State) (x : Option FaultRecord) : (s.setFault x).tick = s.tick := rfl
@[simp] theorem State.setFault_env (s : State) (x : Option FaultRecord) : (s.setFault x).env = s.env := rfl

@[simp] theorem State.setEnv_cfg (s : State) (x : Env) : (s.setEnv x).cfg = s.cfg := rfl
@[simp] theorem State.setEnv_box (s : State) (x : Env) : (s.setEnv x).box = s.box := rfl
@[simp] theorem State.setEnv_peak (s : State) (x : Env) : (s.setEnv x).peak = s.peak := rfl
@[simp] theorem State.setEnv_qnt (s : State) (x : Env) : (s.setEnv x).qnt = s.qnt := rfl
@[simp] theorem State.setEnv_bar (s : State) (x : Env) : (s.setEnv x).bar = s.bar := rfl
@[simp] theorem State.setEnv_key (s : State) (x : Env) : (s.setEnv x).key = s.key := rfl
@[simp] theorem State.setEnv_ui (s : State) (x : Env) : (s.setEnv x).ui = s.ui := rfl
@[simp] theorem State.setEnv_fault (s : State) (x : Env) : (s.setEnv x).fault = s.fault := rfl
@[simp] theorem State.setEnv_mon (s : State) (x : Env) : (s.setEnv x).mon = s.mon := rfl
@[simp] theorem State.setEnv_tick (s : State) (x : Env) : (s.setEnv x).tick = s.tick := rfl
@[simp] theorem State.setEnv_env (s : State) (x : Env) : (s.setEnv x).env = x := rfl

@[simp] theorem takeFault_cfg (f : FaultRecord) (s : State) : (takeFault f s).cfg = s.cfg := rfl
@[simp] theorem takeFault_box (f : FaultRecord) (s : State) : (takeFault f s).box = s.box := rfl
@[simp] theorem takeFault_peak (f : FaultRecord) (s : State) : (takeFault f s).peak = s.peak := rfl
@[simp] theorem takeFault_qnt (f : FaultRecord) (s : State) : (takeFault f s).qnt = s.qnt := rfl
@[simp] theorem takeFault_bar (f : FaultRecord) (s : State) : (takeFault f s).bar = s.bar := rfl
@[simp] theorem takeFault_key (f : FaultRecord) (s : State) : (takeFault f s).key = s.key := rfl
@[simp] theorem takeFault_ui (f : FaultRecord) (s : State) : (takeFault f s).ui = s.ui := rfl
@[simp] theorem takeFault_fault (f : FaultRecord) (s : State) : (takeFault f s).fault = some f := rfl
@[simp] theorem takeFault_mon (f : FaultRecord) (s : State) : (takeFault f s).mon = s.mon := rfl
@[simp] theorem takeFault_tick (f : FaultRecord) (s : State) : (takeFault f s).tick = s.tick := rfl
@[simp] theorem takeFault_env (f : FaultRecord) (s : State) : (takeFault f s).env = s.env := rfl

end Sys2Proof.Machine
end

