-- ==== Sys2Proof/Laws/Ops.lean ====
section
/-! SUPPORT. The shared operations: what each of them can do, said once. -/

namespace Sys2Proof.Machine

/-! ### Ports -/

@[simp] theorem InPorts.get_set_same {α : Type} (x : InPorts α) (p : InPort) (v : α) : (x.set p v).get p = v := by
  cases p <;> rfl

theorem InPorts.get_set_other {α : Type} (x : InPorts α) {p q : InPort} (v : α) (h : q ≠ p) :
    (x.set p v).get q = x.get q := by
  cases p <;> cases q <;> first | rfl | exact absurd rfl h

@[simp] theorem OutPorts.get_set_same {α : Type} (x : OutPorts α) (p : OutPort) (v : α) : (x.set p v).get p = v := by
  cases p <;> rfl

theorem OutPorts.get_set_other {α : Type} (x : OutPorts α) {p q : OutPort} (v : α) (h : q ≠ p) :
    (x.set p v).get q = x.get q := by
  cases p <;> cases q <;> first | rfl | exact absurd rfl h

theorem InPort.mem_all (p : InPort) : p ∈ InPort.all := by cases p <;> decide

theorem UnitId.mem_all (u : UnitId) : u ∈ UnitId.all := by cases u <;> decide

/-! ### The stream from RECT to BOX -/

/-- The payload on `box_in` is the magnitude (40_rectifier.md R150). -/
@[simp] theorem boxInItem_payload (s : State) : (boxInItem s).payload = rectValue s.cfg (rectL s) (rectR s) := rfl

/-! ### Transfers -/

/-- What `takeIn` does: on a transfer of a scripted port the head of its queue leaves, and nothing else changes. -/
theorem takeIn_spec (p : InPort) (s : State) :
    takeIn p s = s.setEnv
      { s.env with queues := s.env.queues.set p (if inXfer p s then queueTaken p s else s.env.queues.get p) } := by
  have hset : s.env.queues.set p (s.env.queues.get p) = s.env.queues := by cases p <;> rfl
  unfold takeIn queueTaken
  cases hx : inXfer p s <;> cases ht : s.env.trace <;> simp [State.setEnv, hset]

/-- What `deliver` does: on a transfer the port's log grows by the item presented, and nothing else changes. -/
theorem deliver_spec (p : OutPort) (s : State) :
    deliver p s = s.setEnv { s.env with taken := s.env.taken.set p (logAfter p s) } := by
  have hset : s.env.taken.set p (s.env.taken.get p) = s.env.taken := by cases p <;> rfl
  unfold deliver logAfter logGiven
  cases hx : outXfer p s <;> simp [State.setEnv, hset]

@[simp] theorem takeIn_cfg (p : InPort) (s : State) : (takeIn p s).cfg = s.cfg := by simp [takeIn_spec]
@[simp] theorem takeIn_box (p : InPort) (s : State) : (takeIn p s).box = s.box := by simp [takeIn_spec]
@[simp] theorem takeIn_peak (p : InPort) (s : State) : (takeIn p s).peak = s.peak := by simp [takeIn_spec]
@[simp] theorem takeIn_qnt (p : InPort) (s : State) : (takeIn p s).qnt = s.qnt := by simp [takeIn_spec]
@[simp] theorem takeIn_bar (p : InPort) (s : State) : (takeIn p s).bar = s.bar := by simp [takeIn_spec]
@[simp] theorem takeIn_key (p : InPort) (s : State) : (takeIn p s).key = s.key := by simp [takeIn_spec]
@[simp] theorem takeIn_ui (p : InPort) (s : State) : (takeIn p s).ui = s.ui := by simp [takeIn_spec]
@[simp] theorem takeIn_fault (p : InPort) (s : State) : (takeIn p s).fault = s.fault := by simp [takeIn_spec]
@[simp] theorem takeIn_mon (p : InPort) (s : State) : (takeIn p s).mon = s.mon := by simp [takeIn_spec]
@[simp] theorem takeIn_tick (p : InPort) (s : State) : (takeIn p s).tick = s.tick := by simp [takeIn_spec]
@[simp] theorem takeIn_trace (p : InPort) (s : State) : (takeIn p s).env.trace = s.env.trace := by simp [takeIn_spec]
@[simp] theorem takeIn_idle (p : InPort) (s : State) : (takeIn p s).env.idle = s.env.idle := by simp [takeIn_spec]
@[simp] theorem takeIn_sinks (p : InPort) (s : State) : (takeIn p s).env.sinks = s.env.sinks := by simp [takeIn_spec]
@[simp] theorem takeIn_taken (p : InPort) (s : State) : (takeIn p s).env.taken = s.env.taken := by simp [takeIn_spec]

@[simp] theorem deliver_cfg (p : OutPort) (s : State) : (deliver p s).cfg = s.cfg := by simp [deliver_spec]
@[simp] theorem deliver_box (p : OutPort) (s : State) : (deliver p s).box = s.box := by simp [deliver_spec]
@[simp] theorem deliver_peak (p : OutPort) (s : State) : (deliver p s).peak = s.peak := by simp [deliver_spec]
@[simp] theorem deliver_qnt (p : OutPort) (s : State) : (deliver p s).qnt = s.qnt := by simp [deliver_spec]
@[simp] theorem deliver_bar (p : OutPort) (s : State) : (deliver p s).bar = s.bar := by simp [deliver_spec]
@[simp] theorem deliver_key (p : OutPort) (s : State) : (deliver p s).key = s.key := by simp [deliver_spec]
@[simp] theorem deliver_ui (p : OutPort) (s : State) : (deliver p s).ui = s.ui := by simp [deliver_spec]
@[simp] theorem deliver_fault (p : OutPort) (s : State) : (deliver p s).fault = s.fault := by simp [deliver_spec]
@[simp] theorem deliver_mon (p : OutPort) (s : State) : (deliver p s).mon = s.mon := by simp [deliver_spec]
@[simp] theorem deliver_tick (p : OutPort) (s : State) : (deliver p s).tick = s.tick := by simp [deliver_spec]
@[simp] theorem deliver_trace (p : OutPort) (s : State) : (deliver p s).env.trace = s.env.trace := by simp [deliver_spec]
@[simp] theorem deliver_idle (p : OutPort) (s : State) : (deliver p s).env.idle = s.env.idle := by simp [deliver_spec]
@[simp] theorem deliver_sinks (p : OutPort) (s : State) : (deliver p s).env.sinks = s.env.sinks := by simp [deliver_spec]
@[simp] theorem deliver_queues (p : OutPort) (s : State) : (deliver p s).env.queues = s.env.queues := by
  simp [deliver_spec]

/-- Taking an input item leaves every output `ready` of the tick as it was. -/
@[simp] theorem outReady_takeIn (p : InPort) (q : OutPort) (s : State) : outReady q (takeIn p s) = outReady q s := by
  unfold outReady rawInputs
  rw [takeIn_trace]
  cases s.env.trace <;> cases q <;> simp [OutPorts.get]

@[simp] theorem outValid_takeIn (p : InPort) (q : OutPort) (s : State) : outValid q (takeIn p s) = outValid q s := by
  cases q <;> simp [outValid, boxOutValid, keyOutValid]

@[simp] theorem outItem_takeIn (p : InPort) (q : OutPort) (s : State) : outItem q (takeIn p s) = outItem q s := by
  cases q <;> simp [outItem, keyOutLevel, keyOutLast]

@[simp] theorem logAfter_takeIn (p : InPort) (q : OutPort) (s : State) : logAfter q (takeIn p s) = logAfter q s := by
  simp [logAfter, logGiven, outXfer]

/-! ### The ring buffer operations -/

theorem memRead_of_lt {s : State} {a : Nat} (h : a < s.cfg.D) : memRead s a = some (s.box.buf.read a) := by
  simp [memRead, h]

theorem memWrite_of_lt {s : State} {a : Nat} (v : Int) (h : a < s.cfg.D) :
    memWrite s a v = some (s.box.buf.write a (storeS s.cfg.WB v)) := by
  simp [memWrite, h]

/-! ### The slot loads -/

/-- What `peakLoad` does: PEAK's registers, the queue of `peak_in` and the log of `peak_out`. -/
theorem peakLoad_spec (s : State) (y peak count : Nat) :
    peakLoad s y peak count =
      { s with
        peak := { peak := peak, count := count, ov := true, y := y }
        env :=
          { s.env with
            queues := s.env.queues.set .peakIn (if inXfer .peakIn s then queueTaken .peakIn s else s.env.queues.peakIn)
            taken := s.env.taken.set .peakOut (logAfter .peakOut s) } } := by
  unfold peakLoad
  rw [deliver_spec, logAfter_takeIn, takeIn_spec]
  rfl

/-- What `qntLoad` does: QNT's output slot, and the log of `qnt_out`. -/
theorem qntLoad_spec (s : State) (v : Nat) :
    qntLoad s v =
      { s with
        qnt := { s.qnt with v := v, f := (barQ s).first, l := (barQ s).last, ov := true }
        env := { s.env with taken := s.env.taken.set .qntOut (logAfter .qntOut s) } } := by
  unfold qntLoad
  rw [deliver_spec]
  rfl

end Sys2Proof.Machine
end

