-- ==== Sys2Proof/Laws/PerInstr.lean ====
section
/-! SUPPORT. Statements made for every operation, one lemma per constructor of `Instr`. -/

/-- The operation's word is one of its row (30_encoding.md R110): the row's fixed bits lie under its mask, the unit field
names the unit that executes it (R111), and the decoder reads the operation from it. -/
def Sys2Proof.Laws.RowOfTable.Statement (i : Sys2Proof.Instr) : Prop :=
  i.covers (Sys2Proof.encode i) = true ∧ Sys2Proof.Word.unitField (Sys2Proof.encode i) = i.unit.code ∧
    Sys2Proof.decode (Sys2Proof.encode i) = some i

namespace Sys2Proof.Laws.RowOfTable

theorem rectXfer : Statement .rectXfer := ⟨by decide, by decide, by decide⟩
theorem rectStall : Statement .rectStall := ⟨by decide, by decide, by decide⟩
theorem rectNone : Statement .rectNone := ⟨by decide, by decide, by decide⟩
theorem boxWaitin : Statement .boxWaitin := ⟨by decide, by decide, by decide⟩
theorem boxAccept : Statement .boxAccept := ⟨by decide, by decide, by decide⟩
theorem boxWrite : Statement .boxWrite := ⟨by decide, by decide, by decide⟩
theorem boxAccum : Statement .boxAccum := ⟨by decide, by decide, by decide⟩
theorem boxEmit : Statement .boxEmit := ⟨by decide, by decide, by decide⟩
theorem boxHold : Statement .boxHold := ⟨by decide, by decide, by decide⟩
theorem boxDrain : Statement .boxDrain := ⟨by decide, by decide, by decide⟩
theorem peakAttack : Statement .peakAttack := ⟨by decide, by decide, by decide⟩
theorem peakHold : Statement .peakHold := ⟨by decide, by decide, by decide⟩
theorem peakDecay : Statement .peakDecay := ⟨by decide, by decide, by decide⟩
theorem peakKeep : Statement .peakKeep := ⟨by decide, by decide, by decide⟩
theorem peakDrain : Statement .peakDrain := ⟨by decide, by decide, by decide⟩
theorem qntSathi : Statement .qntSathi := ⟨by decide, by decide, by decide⟩
theorem qntSatlo : Statement .qntSatlo := ⟨by decide, by decide, by decide⟩
theorem qntDefer : Statement .qntDefer := ⟨by decide, by decide, by decide⟩
theorem qntHalf : Statement .qntHalf := ⟨by decide, by decide, by decide⟩
theorem qntNoacc : Statement .qntNoacc := ⟨by decide, by decide, by decide⟩
theorem qntMul : Statement .qntMul := ⟨by decide, by decide, by decide⟩
theorem barPresent : Statement .barPresent := ⟨by decide, by decide, by decide⟩
theorem barStall : Statement .barStall := ⟨by decide, by decide, by decide⟩
theorem barAccept : Statement .barAccept := ⟨by decide, by decide, by decide⟩
theorem barWaitin : Statement .barWaitin := ⟨by decide, by decide, by decide⟩
theorem keyWaitin : Statement .keyWaitin := ⟨by decide, by decide, by decide⟩
theorem keyAccept : Statement .keyAccept := ⟨by decide, by decide, by decide⟩
theorem keyDone : Statement .keyDone := ⟨by decide, by decide, by decide⟩
theorem keyIsolate : Statement .keyIsolate := ⟨by decide, by decide, by decide⟩
theorem keySendwait : Statement .keySendwait := ⟨by decide, by decide, by decide⟩
theorem keySend : Statement .keySend := ⟨by decide, by decide, by decide⟩
theorem uikNone : Statement .uikNone := ⟨by decide, by decide, by decide⟩
theorem uikEnter : Statement .uikEnter := ⟨by decide, by decide, by decide⟩
theorem uikIgnore0 : Statement .uikIgnore0 := ⟨by decide, by decide, by decide⟩
theorem uikCommit : Statement .uikCommit := ⟨by decide, by decide, by decide⟩
theorem uikStepUp : Statement .uikStepUp := ⟨by decide, by decide, by decide⟩
theorem uikStepDown : Statement .uikStepDown := ⟨by decide, by decide, by decide⟩
theorem uikIgnore1 : Statement .uikIgnore1 := ⟨by decide, by decide, by decide⟩
theorem uioRstep : Statement .uioRstep := ⟨by decide, by decide, by decide⟩
theorem uioRlast : Statement .uioRlast := ⟨by decide, by decide, by decide⟩
theorem uioRstall : Statement .uioRstall := ⟨by decide, by decide, by decide⟩
theorem uioPass : Statement .uioPass := ⟨by decide, by decide, by decide⟩
theorem uioDrain : Statement .uioDrain := ⟨by decide, by decide, by decide⟩
theorem uioKeep : Statement .uioKeep := ⟨by decide, by decide, by decide⟩

end Sys2Proof.Laws.RowOfTable
end

