-- ==== Sys2Proof/Laws/Tick.lean ====
section
/-! SUPPORT. What one step can do, said once: a halted model answers its fault; a tick takes a fault and changes nothing
else, or is clean and commits the eight operations together. -/

namespace Sys2Proof.Machine

/-- A clean tick: no port breaches its obligation, every selector word is legal, no operation stops the tick and no
check fails after the commit. -/
def CleanTick (s : State) : Prop :=
  (∀ p, breaches s p = false) ∧ (∀ u, (selected u s).isSome) ∧ (∀ u, unitStop s u = none) ∧
    failedAssertion (commit s (unitState s)) = none

theorem envKeeps_iff (s : State) : envKeeps s = true ↔ ∀ p, breaches s p = false := by
  simp only [envKeeps, List.all_eq_true, Bool.not_eq_true']
  exact ⟨fun h p => h p (InPort.mem_all p), fun h p _ => h p⟩

theorem tick_of_clean {s : State} (h : CleanTick s) : tick s = .next (endTick s (commit s (unitState s))) := by
  obtain ⟨hb, hs, hu, ha⟩ := h
  have e1 : InPort.all.find? (breaches s) = none := by
    rw [List.find?_eq_none]; intro p _; simp [hb p]
  have e2 : UnitId.all.find? (fun u => (selected u s).isNone) = none := by
    rw [List.find?_eq_none]
    intro u _
    have := hs u
    simp [Option.isSome_iff_ne_none.mp this]
  have e3 : UnitId.all.findSome? (unitStop s) = none := by
    rw [List.findSome?_eq_none_iff]; intro u _; exact hu u
  simp [tick, e1, e2, e3, ha]

theorem unitStop_next {s t : State} {u : UnitId} (h : unitStop s u = some (.next t)) : ∃ f, t = takeFault f s := by
  unfold unitStop at h
  split at h
  · split at h
    · next t' _ =>
      cases hf : t'.fault with
      | none => simp [hf] at h
      | some f => simp only [hf, Option.map_some, Option.some.injEq, Host.Outcome.next.injEq] at h; exact ⟨f, h.symm⟩
    · simp at h
    · simp at h
  · simp at h

/-- Everything a tick that answers a next state can have done. -/
theorem tick_next_cases {s t : State} (h : tick s = .next t) :
    (∃ f, t = takeFault f s) ∨ (CleanTick s ∧ t = endTick s (commit s (unitState s))) := by
  unfold tick at h
  split at h
  · exact .inl ⟨_, (Host.Outcome.next.inj h).symm⟩
  next e1 =>
  split at h
  · exact .inl ⟨_, (Host.Outcome.next.inj h).symm⟩
  next e2 =>
  split at h
  · next r e3 =>
    obtain ⟨u, _, hu⟩ := List.exists_of_findSome?_eq_some e3
    exact .inl (unitStop_next (h ▸ hu))
  next e3 =>
  split at h
  · exact .inl ⟨_, (Host.Outcome.next.inj h).symm⟩
  next e4 =>
  refine .inr ⟨⟨fun p => ?_, fun u => ?_, fun u => ?_, e4⟩, (Host.Outcome.next.inj h).symm⟩
  · have := List.find?_eq_none.mp e1 p (InPort.mem_all p); simpa using this
  · have := List.find?_eq_none.mp e2 u (UnitId.mem_all u)
    cases hsel : selected u s <;> simp_all
  · exact List.findSome?_eq_none_iff.mp e3 u (UnitId.mem_all u)

/-- Everything a step that answers a next state can have done. -/
theorem step_next_cases {s t : State} (h : step s = .next t) :
    s.fault = none ∧ ((∃ f, t = takeFault f s) ∨ (CleanTick s ∧ t = endTick s (commit s (unitState s)))) := by
  unfold step at h
  cases hf : s.fault with
  | some f => simp [hf] at h
  | none => rw [hf] at h; exact ⟨rfl, tick_next_cases h⟩

/-- A unit of a clean tick has executed the operation it selected, to a state without a fault. -/
theorem CleanTick.executed {s : State} (h : CleanTick s) (u : UnitId) :
    ∃ i, selected u s = some i ∧ exec i s = .next (unitState s u) ∧ (unitState s u).fault = none := by
  obtain ⟨i, hi⟩ := Option.isSome_iff_exists.mp (h.2.1 u)
  have hu := h.2.2.1 u
  unfold unitStop at hu
  unfold unitState
  rw [hi] at hu ⊢
  cases he : exec i s with
  | next t =>
    refine ⟨i, rfl, by simp [he], ?_⟩
    cases hf : t.fault with
    | none => simp [he, hf]
    | some f => simp [he, hf] at hu
  | fault r => simp [he] at hu
  | refused r => simp [he] at hu

end Sys2Proof.Machine
end

