-- ==== Sys2Proof/Tests/Slice0.lean ====
section
/-! SUPPORT. Small tests with results taken from the spec's examples and vectors, and a witness for the hypotheses of
every statement that has any. -/

open Sys2Proof Sys2Proof.Machine

namespace Sys2Proof.Tests

/-! ### Helpers -/

/-- The state whose next step runs the selector word `w`. -/
def placed (w : Nat) : State := State.reset.withFetchWord 16 w

/-- The next state, or the reset state where there is none. -/
def after (r : Result) : State :=
  match r with
  | .next t => t
  | _ => State.reset

/-- An operation's next state. -/
def did (i : Instr) (s : State) : State := after (exec i s)

/-- An item offered on an input port in the coming tick. -/
def offering (p : InPort) (payload : Nat) (s : State) : State := placeOffer s p true payload

/-- Every step's next state. -/
def ticked (s : State) : State := after (step s)

/-! ### The configuration check (95_test_vectors.md 2.11) -/

theorem test_default_accepted : Config.default.failedChecks = [] := by decide
theorem test_cfg_1 : Config.failedChecks { Config.default with thr := [0, 8, 8, 100] } = [.thrAsc] := by decide
theorem test_cfg_2 : Config.failedChecks { Config.default with mul := [15, 0, 1] } = [.mulNonzero] := by decide
theorem test_cfg_3 : Config.failedChecks { Config.default with D := 3 } = [.dPow2] := by decide
theorem test_cfg_4 : Config.failedChecks { Config.default with WB := 8 } = [.rectBox] := by decide
theorem test_cfg_5 : Check.qntW ∈ Config.failedChecks { Config.default with IW := 4 } := by decide
theorem test_cfg_6 : Config.failedChecks { Config.default with n := 0 } = [.peak] := by decide
theorem test_cfg_7 : Config.failedChecks { Config.default with mul := [16, 5, 1] } = [.mulW] := by decide
theorem test_cfg_8 : Config.failedChecks { Config.default with aBit := 0 } = [.uiKeys] := by decide
theorem test_cfg_9 : Config.failedChecks { Config.default with leds := 9 } = [.uiRing] := by decide
theorem test_cfg_10 : Config.failedChecks { Config.default with bright := 16 } = [.brightness] := by decide
theorem test_cfg_11 : Config.failedChecks { Config.default with thr := [0, 8, 32, 256] } = [.thrAsc] := by decide
theorem test_cfg_12 : Config.failedChecks { Config.default with mul := [20, 5, 1], MW := 5 } = [] := by decide
theorem test_cfg_13 : Config.failedChecks { Config.default with D := 3, mul := [15, 0, 1] } = [.dPow2, .mulNonzero] := by
  decide
theorem test_cfg_segments : Config.failedChecks { Config.default with N := 0, thr := [0], mul := [] } = [.numSegments] := by
  decide
theorem test_cfg_key : Config.failedChecks { Config.default with K := 0 } = [.keyWidth] := by decide
theorem test_cfg_address : Config.failedChecks { Config.default with leds := 1, AW := 0 } = [.uiRing] := by decide
/-- `C_SUM_W` has no ill-formed term: `S` is derived (log 14). -/
theorem test_cfg_sum (c : Config) : Check.sumW.passes c = true := by simp [Check.passes, Config.okSumW, Config.S]
/-- "A refused configuration has no state and no behaviour". -/
theorem test_boot_refuses :
    boot { Config.default with D := 3 } = .refused (.configuration [.dPow2]) := rfl

/-! ### Decoding: words written out from the encodings of opcode_table.json, free bits at both values -/

theorem test_decode_rect :
    decode 0b0000_0000_0011#12 = some .rectXfer ∧ decode 0b0000_0000_0001#12 = some .rectStall ∧
    decode 0b0000_0000_0000#12 = some .rectNone ∧ decode 0b0000_0000_0010#12 = some .rectNone := by decide
theorem test_decode_box :
    decode 0b0001_0000_0000#12 = some .boxWaitin ∧ decode 0b0001_0000_0010#12 = some .boxWaitin ∧
    decode 0b0001_0000_0001#12 = some .boxAccept ∧ decode 0b0001_0000_0011#12 = some .boxAccept ∧
    decode 0b0001_0001_0000#12 = some .boxWrite ∧ decode 0b0001_0001_0011#12 = some .boxWrite ∧
    decode 0b0001_0010_0000#12 = some .boxAccum ∧ decode 0b0001_0010_0011#12 = some .boxAccum ∧
    decode 0b0001_0011_0000#12 = some .boxEmit ∧ decode 0b0001_0011_0011#12 = some .boxEmit ∧
    decode 0b0001_0100_0000#12 = some .boxHold ∧ decode 0b0001_0100_0001#12 = some .boxHold ∧
    decode 0b0001_0100_0010#12 = some .boxDrain ∧ decode 0b0001_0100_0011#12 = some .boxDrain := by decide
theorem test_decode_peak :
    decode 0b0010_0000_0011#12 = some .peakAttack ∧ decode 0b0010_0000_1111#12 = some .peakAttack ∧
    decode 0b0010_0000_0001#12 = some .peakHold ∧ decode 0b0010_0000_1001#12 = some .peakHold ∧
    decode 0b0010_0000_0101#12 = some .peakDecay ∧ decode 0b0010_0000_1101#12 = some .peakDecay ∧
    decode 0b0010_0000_0000#12 = some .peakKeep ∧ decode 0b0010_0000_0110#12 = some .peakKeep ∧
    decode 0b0010_0000_1000#12 = some .peakDrain ∧ decode 0b0010_0000_1110#12 = some .peakDrain := by decide
theorem test_decode_qnt :
    decode 0b0011_0000_0011#12 = some .qntSathi ∧ decode 0b0011_0000_1111#12 = some .qntSathi ∧
    decode 0b0011_0000_0101#12 = some .qntSatlo ∧ decode 0b0011_0000_1101#12 = some .qntSatlo ∧
    decode 0b0011_0000_0001#12 = some .qntDefer ∧ decode 0b0011_0000_1001#12 = some .qntHalf ∧
    decode 0b0011_0000_0000#12 = some .qntNoacc ∧ decode 0b0011_0000_1110#12 = some .qntNoacc ∧
    decode 0b0011_0001_0000#12 = some .qntMul ∧ decode 0b0011_0001_1111#12 = some .qntMul := by decide
theorem test_decode_bar :
    decode 0b0100_0000_0010#12 = some .barPresent ∧ decode 0b0100_0000_0011#12 = some .barPresent ∧
    decode 0b0100_0000_0000#12 = some .barStall ∧ decode 0b0100_0000_0001#12 = some .barStall ∧
    decode 0b0100_0001_0001#12 = some .barAccept ∧ decode 0b0100_0001_0011#12 = some .barAccept ∧
    decode 0b0100_0001_0000#12 = some .barWaitin ∧ decode 0b0100_0001_0010#12 = some .barWaitin := by decide
theorem test_decode_key :
    decode 0b0101_0000_0000#12 = some .keyWaitin ∧ decode 0b0101_0000_0110#12 = some .keyWaitin ∧
    decode 0b0101_0000_0001#12 = some .keyAccept ∧ decode 0b0101_0000_0111#12 = some .keyAccept ∧
    decode 0b0101_0001_0010#12 = some .keyDone ∧ decode 0b0101_0001_0111#12 = some .keyDone ∧
    decode 0b0101_0001_0000#12 = some .keyIsolate ∧ decode 0b0101_0001_0101#12 = some .keyIsolate ∧
    decode 0b0101_0010_0000#12 = some .keySendwait ∧ decode 0b0101_0010_0011#12 = some .keySendwait ∧
    decode 0b0101_0010_0100#12 = some .keySend ∧ decode 0b0101_0010_0111#12 = some .keySend := by decide
theorem test_decode_uik :
    decode 0b0110_0000_0000#12 = some .uikNone ∧ decode 0b0110_0001_1110#12 = some .uikNone ∧
    decode 0b0110_0000_0011#12 = some .uikEnter ∧ decode 0b0110_0000_1111#12 = some .uikEnter ∧
    decode 0b0110_0000_0001#12 = some .uikIgnore0 ∧ decode 0b0110_0000_1101#12 = some .uikIgnore0 ∧
    decode 0b0110_0001_0011#12 = some .uikCommit ∧ decode 0b0110_0001_1111#12 = some .uikCommit ∧
    decode 0b0110_0001_1101#12 = some .uikStepUp ∧ decode 0b0110_0001_0101#12 = some .uikStepDown ∧
    decode 0b0110_0001_0001#12 = some .uikIgnore1 ∧ decode 0b0110_0001_1001#12 = some .uikIgnore1 := by decide
theorem test_decode_uio :
    decode 0b0111_0001_0001#12 = some .uioRstep ∧ decode 0b0111_0001_1011#12 = some .uioRstep ∧
    decode 0b0111_0001_0101#12 = some .uioRlast ∧ decode 0b0111_0001_1111#12 = some .uioRlast ∧
    decode 0b0111_0001_0000#12 = some .uioRstall ∧ decode 0b0111_0001_1110#12 = some .uioRstall ∧
    decode 0b0111_0000_0011#12 = some .uioPass ∧ decode 0b0111_0000_1111#12 = some .uioPass ∧
    decode 0b0111_0000_0001#12 = some .uioDrain ∧ decode 0b0111_0000_1101#12 = some .uioDrain ∧
    decode 0b0111_0000_0000#12 = some .uioKeep ∧ decode 0b0111_0000_1110#12 = some .uioKeep := by decide
/-- V-FLT-4 to V-FLT-6: words of no row. -/
theorem test_decode_illegal :
    decode 0x150#12 = none ∧ decode 0x160#12 = none ∧ decode 0x170#12 = none ∧ decode 0x530#12 = none ∧
    decode 0x104#12 = none ∧ decode 0x508#12 = none ∧ decode 0x800#12 = none ∧ decode 0xF00#12 = none ∧
    decode 0x320#12 = none ∧ decode 0x620#12 = none ∧ decode 0x720#12 = none ∧ decode 0x210#12 = none := by decide
/-- The bits of a table word above bit 11 must be 0. -/
theorem test_table_word :
    decodeTableWord 16 0x0142 = some .boxDrain ∧ decodeTableWord 16 0x1142 = none ∧ decodeTableWord 8 0x142 = none := by
  decide

/-! ### RECT (40_rectifier.md) -/

/-- R152: `WR = 8`, `(l, r) = (-128, 5)` gives `mag = 128`; item 0 of program P1 is packed `0x0580`. -/
theorem test_rect_magnitude :
    rectValue .default (-128) 5 = 128 ∧ boxInX (offering .rectIn 0x0580 State.reset) = 128 ∧
      packRect .default (-128) 5 = 0x0580 := by decide
/-- P1, items 1 and 3. -/
theorem test_rect_signs :
    boxInX (offering .rectIn 0xF903 State.reset) = 7 ∧ boxInX (offering .rectIn 0x00FF State.reset) = 1 := by decide
/-- R150: whatever framing the pair has, RECT frames the item it drives on `box_in` by itself, and it transfers with the pair. -/
theorem test_boxIn_framing :
    boxInItem (offering .rectIn 0x0580 State.reset) = ⟨128, true, true⟩ ∧
      boxInXfer (offering .rectIn 0x0580 State.reset) = true ∧
      boxInXfer ((offering .rectIn 0x0580 State.reset).setBox { State.reset.box with state := boxWait }) = false := by decide
theorem test_rectXfer_takes :
    let s := State.reset.setEnv { State.reset.env with queues := { State.reset.env.queues with rectIn := [⟨1, true, true⟩] } }
    (did .rectXfer s).env.queues.rectIn = [] := by decide
theorem test_rectStall_waits : did .rectStall (placed 0x001) = placed 0x001 := by decide
theorem test_rectNone_idles : did .rectNone (placed 0x000) = placed 0x000 := by decide

/-! ### BOX (41_boxcar.md) -/

/-- R173: reset state, `x = 128`: `new = 128`, `old = 0`, state `WRITE`. -/
theorem test_boxAccept :
    let t := did .boxAccept (offering .rectIn 0x0580 State.reset)
    t.box.newSample = 128 ∧ t.box.oldSample = 0 ∧ t.box.state = boxWrite := by decide
/-- R174: `new = 128, old = 0`: `delta = 128`, `buf[0] = 128`. -/
theorem test_boxWrite :
    let t := did .boxWrite (State.reset.setBox { State.reset.box with state := boxWrite, newSample := 128 })
    t.box.delta = 128 ∧ t.box.buf = [(0, 128)] ∧ t.box.state = boxAccum := by decide
/-- R174: the extreme `new = -256, old = 255` fits `WB + 1` bits. -/
theorem test_boxWrite_extreme :
    (did .boxWrite (State.reset.setBox
      { State.reset.box with state := boxWrite, newSample := -256, oldSample := 255 })).box.delta = -511 := by decide
/-- R175: `sum = 0, delta = 128, addr = 0, D = 4`: `sum = 128, addr = 1`; `addr = D-1` wraps to 0. -/
theorem test_boxAccum :
    let t := did .boxAccum (State.reset.setBox { State.reset.box with state := boxAccum, delta := 128 })
    let u := did .boxAccum (State.reset.setBox { State.reset.box with state := boxAccum, addr := 3 })
    t.box.sum = 128 ∧ t.box.addr = 1 ∧ t.box.state = boxEmit ∧ u.box.addr = 0 := by decide
/-- R176: `sum = 128, D = 4`: `out = 32`; a negative sum rounds toward minus infinity, `sum = -3, D = 2` gives `-2`. -/
theorem test_boxEmit :
    (did .boxEmit (State.reset.setBox { State.reset.box with state := boxEmit, sum := 128 })).box.out = 32 ∧
    (did .boxEmit ((State.resetWith { Config.default with D := 2 }).setBox
      { State.reset.box with state := boxEmit, sum := -3 })).box.out = -2 := by decide
/-- R178: `avg = 32` transfers; the next tick BOX is in `IDLE`. -/
theorem test_boxDrain :
    let t := did .boxDrain (State.reset.setBox { State.reset.box with state := boxWait, out := 32 })
    t.box.state = boxIdle ∧ t.env.taken.boxOut = [⟨0, ⟨0x020, true, true⟩⟩] := by decide
/-- R177: sink stalled, `avg = 32` stays presented. -/
theorem test_boxHold :
    let s := placed 0x140
    let t := did .boxHold (s.setBox { s.box with out := 32 })
    t.box.out = 32 ∧ t.box.state = boxWait := by decide
theorem test_boxWaitin : did .boxWaitin State.reset = State.reset := by decide

/-! ### PEAK (42_peak.md) -/

/-- R202: `point = 4`, `peak = 0`, `x = 10`: `y = 10`, `peak = 160`, `count = 0`. -/
theorem test_peakAttack : (did .peakAttack (offering .peakIn 10 State.reset)).peak = ⟨160, 0, true, 10⟩ := by decide
/-- R203: `peak = 160, count = 0, n = 2, x = 3`: `y = 10`, `count = 1`. -/
theorem test_peakHold :
    (did .peakHold (offering .peakIn 3 (State.reset.setPeak ⟨160, 0, false, 0⟩))).peak = ⟨160, 1, true, 10⟩ := by decide
/-- R204: `point = 4, n = 2, peak = 160, count = 1, x = 3`: `y = 10`, `peak = 150`, `count = 0`. -/
theorem test_peakDecay :
    (did .peakDecay (offering .peakIn 3 (State.reset.setPeak ⟨160, 1, false, 0⟩))).peak = ⟨150, 0, true, 10⟩ := by decide
/-- R206: `ov = 1, y = 10`, sink ready, no input: `y = 10` transfers; `ov = 0`. -/
theorem test_peakDrain :
    let t := did .peakDrain (State.reset.setPeak ⟨160, 1, true, 10⟩)
    t.peak = ⟨160, 1, false, 10⟩ ∧ t.env.taken.peakOut = [⟨0, ⟨10, true, true⟩⟩] := by decide
/-- R205: `ov = 1, y = 10`, sink stalled: unchanged. -/
theorem test_peakKeep :
    (did .peakKeep ((placed 0x200).setPeak ⟨160, 1, true, 10⟩)).peak = ⟨160, 1, true, 10⟩ := by decide

/-! ### QNT and BAR (43_quantizer.md, 44_bargraph.md) -/

/-- BAR busy with a segment and a sample. -/
def busy (idx data : Nat) : State := State.reset.setBar ⟨idx, data⟩

/-- R232: `data = 20, lo = 0, hi = 8`: `value = 15`. -/
theorem test_qntSathi : (did .qntSathi (busy 0 20)).qnt.v = 15 ∧ (did .qntSathi (busy 0 20)).qnt.f = true := by decide
/-- R233: `data = 20, lo = 32, hi = 100`: `value = 0`. -/
theorem test_qntSatlo : (did .qntSatlo (busy 2 20)).qnt.v = 0 ∧ (did .qntSatlo (busy 2 20)).qnt.l = true := by decide
/-- R234: `data = 20, lo = 8, hi = 32, mul = 5`: `md = 12, mm = 5`, state `MUL`. -/
theorem test_qntDefer :
    let t := did .qntDefer (busy 1 20)
    t.qnt.md = 12 ∧ t.qnt.mm = 5 ∧ t.qnt.state = qntMul ∧ t.qnt.ov = false := by decide
/-- R235: `OW = 4`, `data = 6, lo = 5, hi = 9, mul = 0`: `value = 7`. -/
theorem test_qntHalf :
    (did .qntHalf ((State.resetWith { Config.default with N := 1, thr := [5, 9], mul := [0] }).setBar ⟨0, 6⟩)).qnt.v = 7 := by
  decide
/-- R236: `mm = 5, md = 12, shift = 3`: `60 >> 3 = 7`. -/
theorem test_qntMul :
    let t := did .qntMul (State.reset.setQnt { State.reset.qnt with state := qntMul, md := 12, mm := 5 })
    t.qnt.v = 7 ∧ t.qnt.ov = true ∧ t.qnt.state = qntIdle := by decide
/-- V-FLT-7: `qnt.state = MUL` with `qnt.ov = 1`. -/
theorem test_qntMul_full :
    (ticked (State.reset.setQnt { State.reset.qnt with state := qntMul, ov := true })).fault =
      some (.assertion .qnt 236) := by decide
/-- R237: slot holds `value = 15`, the consumer is ready and BAR offers nothing: `15` transfers and `ov = 0`. -/
theorem test_qntNoacc :
    let t := did .qntNoacc (State.reset.setQnt { State.reset.qnt with v := 15, ov := true })
    t.qnt.ov = false ∧ t.env.taken.qntOut = [⟨0, ⟨15, false, false⟩⟩] := by decide
/-- R262: `N = 3`, idle, `data = 20`: `bar.data = 20`, `bar.idx = 0`. -/
theorem test_barAccept : (did .barAccept (offering .barIn 20 State.reset)).bar = ⟨0, 20⟩ := by decide
/-- R264: `bar.idx = 0`, `data = 20`: item `(20, 0, 8, 15, first=1, last=0)`, and `bar.idx = 1`; packed `0xF080014` (P2). -/
theorem test_barPresent :
    barQ (busy 0 20) = ⟨20, 0, 8, 15, true, false⟩ ∧ (did .barPresent (busy 0 20)).bar = ⟨1, 20⟩ ∧
      packBarQ .default 20 0 8 15 = 0xF080014 := by decide
/-- R265: `bar.idx = 2` while QNT is in `MUL`: `bar.idx` stays 2. -/
theorem test_barStall :
    let s := (busy 2 20).setQnt { State.reset.qnt with state := qntMul }
    selected .bar s = some .barStall ∧ (did .barStall s).bar.idx = 2 := by decide
theorem test_barWaitin : did .barWaitin State.reset = State.reset := by decide

/-! ### KEY (45_key_serializer.md) -/

/-- R292: `K = 4`, `prev = 0000`, `snap = 0101`: `diff = 0101`, `prev = 0101`, `first = 1`, state `CALC`. -/
theorem test_keyAccept :
    (did .keyAccept (offering .keyIn 0b0101 State.reset)).key = ⟨keyCalc, 0b0101, 0b0101, 0, true⟩ := by decide
/-- R294: `diff = 0110`: `-diff = 1010`, `mask = 0010`. -/
theorem test_keyIsolate :
    negate 4 0b0110 = 0b1010 ∧
      (did .keyIsolate (State.reset.setKey ⟨keyCalc, 0, 0b0110, 0, true⟩)).key = ⟨keySend, 0, 0b0110, 0b0010, true⟩ := by
  decide
/-- R295: `prev = 0101`, `diff = 0101`, `mask = 0001`, `first = 1`: event `(0001, level 1, first 1, last 0)` transfers,
`diff = 0100`, `first = 0`; the event is `0x11` (P3). -/
theorem test_keySend :
    let t := did .keySend (State.reset.setKey ⟨keySend, 0b0101, 0b0101, 0b0001, true⟩)
    t.key = ⟨keyCalc, 0b0101, 0b0100, 0b0001, false⟩ ∧ t.env.taken.keyOut = [⟨0, ⟨0x11, true, false⟩⟩] := by decide
/-- R297: `diff = 0000` in `CALC`: state `IDLE`. -/
theorem test_keyDone : (did .keyDone (State.reset.setKey ⟨keyCalc, 5, 0, 1, true⟩)).key = ⟨keyIdle, 5, 0, 1, true⟩ := by
  decide
/-- R296: sink stalled with event `(0001, 1)` presented: unchanged. -/
theorem test_keySendwait :
    let s := (placed 0x520).setKey ⟨keySend, 1, 1, 1, true⟩
    outItem .keyOut s = ⟨0x11, true, true⟩ ∧ did .keySendwait s = s := by decide
theorem test_keyWaitin : did .keyWaitin State.reset = State.reset := by decide

/-! ### UIK (46_selection.md) -/

/-- UI's registers with a selection, edit mode and previous keys. -/
def selecting (channel edit : Nat) (editMode : Bool) (prev : Nat) : State :=
  State.reset.setUi { State.reset.ui with channel := channel, edit := edit, editMode := editMode, prevKeys := prev }

/-- R326: `channel = 0`, `snap = 1 << SW_BIT`: `edit_mode = 1`, `edit = 0`, `update = 1`. -/
theorem test_uikEnter :
    let t := did .uikEnter (offering .uiKeyIn 0b001 (selecting 0 3 false 0))
    t.ui.editMode = true ∧ t.ui.edit = 0 ∧ t.ui.update = true ∧ t.ui.prevKeys = 0b001 := by decide
/-- R327: `edit_mode = 1`, `edit = 4`, SW pressed: `channel = 4`, `edit_mode = 0`. -/
theorem test_uikCommit :
    let t := did .uikCommit (offering .uiKeyIn 0b001 (selecting 0 4 true 0))
    t.ui.channel = 4 ∧ t.ui.editMode = false ∧ t.ui.update = false := by decide
/-- R328: `chans = 5`, `edit = 4`, `snap = (1 << A_BIT) + (1 << B_BIT)`, `prev_keys = 1 << B_BIT`: `edit = 0`. -/
theorem test_uikStepUp :
    let s := offering .uiKeyIn 0b110 (selecting 0 4 true 0b100)
    selected .uik s = some .uikStepUp ∧ (did .uikStepUp s).ui.edit = 0 ∧ (did .uikStepUp s).ui.update = true := by decide
/-- R329: `chans = 5`, `edit = 0`, `snap = 1 << A_BIT`: `edit = 4`, `update = 1`. -/
theorem test_uikStepDown :
    let s := offering .uiKeyIn 0b010 (selecting 0 0 true 0)
    selected .uik s = some .uikStepDown ∧ (did .uikStepDown s).ui.edit = 4 ∧ (did .uikStepDown s).ui.update = true := by
  decide
/-- R324: `edit_mode = 0`, `prev_keys = 0`, `snap = 1 << A_BIT`: only `prev_keys` changes. -/
theorem test_uikIgnore0 :
    let s := offering .uiKeyIn 0b010 State.reset
    selected .uik s = some .uikIgnore0 ∧ (did .uikIgnore0 s).ui = { s.ui with prevKeys := 0b010 } := by decide
/-- R325: releasing all keys (`snap = 0`) in edit mode: only `prev_keys` changes. -/
theorem test_uikIgnore1 :
    let s := offering .uiKeyIn 0 (selecting 0 2 true 0b001)
    selected .uik s = some .uikIgnore1 ∧ (did .uikIgnore1 s).ui = { s.ui with prevKeys := 0 } := by decide
/-- R323: `ui.led = 3`, snapshot offered: no transfer. -/
theorem test_uikNone :
    selected .uik (offering .uiKeyIn 0b001 (State.reset.setUi { State.reset.ui with led := 3 })) = some .uikNone := by
  decide

/-! ### UIO (46_selection.md) -/

/-- R331: `leds = 8`, `channel = 0`, `edit = 0`, `bright = 7`, `led = 0`, `update = 1`: frame `(0, 7, 7, 0, first 1, last 0)`,
`led = 1`. -/
theorem test_uioRstep :
    let t := did .uioRstep (State.reset.setUi { State.reset.ui with update := true })
    t.ui.frame = ⟨0, 7, 7, 0, true, false⟩ ∧ t.ui.led = 1 ∧ t.ui.ov = true ∧ t.ui.update = true := by decide
/-- R333: `leds = 8`, `led = 7`, `channel = 4`, `edit = 0`: frame `(7, 0, 0, 0, first 0, last 1)`, `led = 0`, `update = 0`. -/
theorem test_uioRlast :
    let t := did .uioRlast (State.reset.setUi { State.reset.ui with update := true, led := 7, channel := 4 })
    t.ui.frame = ⟨7, 0, 0, 0, false, true⟩ ∧ t.ui.led = 0 ∧ t.ui.update = false := by decide
/-- R334: pass-through frame `(3, 1, 2, 3, first 1, last 1)`, in P4's widths the item `0x0C87`. -/
theorem test_uioPass :
    let s := State.resetWith { Config.default with chans := 3, leds := 4, bright := 9, AW := 2 }
    let t := did .uioPass (s.setEnv { s.env with queues := { s.env.queues with uiPtIn := [⟨0x0C87, true, true⟩] } })
    t.ui.frame = ⟨3, 1, 2, 3, true, true⟩ ∧ t.ui.ov = true ∧ t.env.queues.uiPtIn = [] := by decide
/-- R335: slot holds the last frame of a sweep, consumer ready: the frame transfers; `ov = 0`. -/
theorem test_uioDrain :
    let t := did .uioDrain (State.reset.setUi { State.reset.ui with ov := true, frame := ⟨7, 0, 0, 0, false, true⟩ })
    t.ui.ov = false ∧ t.env.taken.uiOut = [⟨0, ⟨7, false, true⟩⟩] := by decide
/-- R332: `led = 3`, slot full, consumer not ready: unchanged. -/
theorem test_uioRstall : did .uioRstall (placed 0x710) = placed 0x710 := by decide
/-- R336: slot full, consumer stalled, pass-through offered: no transfer on either side. -/
theorem test_uioKeep :
    selected .uio (placed 0x702) = some .uioKeep ∧ (ticked (placed 0x702)).ui = (placed 0x702).ui := by decide

/-! ### Ticks: faults and reset (95_test_vectors.md 2.9, 2.10) -/

/-- V-RST-3: the selectors at tick 0, nothing offered, all sinks ready. -/
theorem test_selectors_after_reset :
    UnitId.all.map (fun u => selector u State.reset) =
      [0x002, 0x102, 0x208, 0x30E, 0x412, 0x506, 0x600, 0x709] := by decide
/-- V-FLT-4 and V-FLT-5. -/
theorem test_illegal_state :
    (ticked (placed 0x150)).fault = some (.illegalState .box 0x150) ∧
    (ticked (placed 0x160)).fault = some (.illegalState .box 0x160) ∧
    (ticked (placed 0x170)).fault = some (.illegalState .box 0x170) ∧
    (ticked (placed 0x530)).fault = some (.illegalState .key 0x530) ∧
    (ticked (State.reset.setBar ⟨4, 0⟩)).fault.map FaultRecord.code = some 2 := by decide

/-- The state of V-FLT-1 after tick 1, with the given offer on `rect_in` in tick 2. -/
def flt (o : Offer) : State :=
  let s := State.reset
  { s with
    box := { s.box with state := boxAccum, newSample := 1, delta := 1, buf := [(0, 1)] }
    mon := { s.mon with rectIn := ⟨true, ⟨packRect .default 3 4, false, false⟩⟩ }
    tick := 2
    env := (placeInputs s { rawInputs s with offers := (rawInputs s).offers.set .rectIn o }).env }

/-- V-FLT-1 and V-FLT-2: the offer is withdrawn, or changed; tick 2 commits nothing. -/
theorem test_broken_obligation :
    ticked (flt ⟨false, .zero⟩) = { flt ⟨false, .zero⟩ with fault := some (.envProtocol .rectIn 2) } ∧
    (ticked (flt ⟨true, ⟨packRect .default 5 6, false, false⟩⟩)).fault = some (.envProtocol .rectIn 2) := by decide
/-- V-FLT-3: the offer is kept; no fault, BOX `ACCUM`. -/
theorem test_kept_obligation :
    let t := ticked (flt ⟨true, ⟨packRect .default 3 4, false, false⟩⟩)
    t.fault = none ∧ t.box.state = boxEmit ∧ t.box.sum = 1 := by decide
/-- V-FLT-8: a breach and an illegal state in one tick. -/
theorem test_lowest_code :
    (ticked ((flt ⟨false, .zero⟩).setBox { State.reset.box with state := 5 })).fault = some (.envProtocol .rectIn 2) := by
  decide
/-- A check that fails after the commit (R373): `box.sum` differs from the sum of the words (R25). -/
theorem test_failed_check :
    (ticked (State.reset.setBox { State.reset.box with sum := 1 })).fault = some (.assertion .box 25) := by decide
/-- "every later step returns the same fault" (R375). -/
theorem test_halted :
    step (ticked (flt ⟨false, .zero⟩)) = .fault (.halted (.envProtocol .rectIn 2)) := rfl
/-- V-FLT-10: reset ends the halt. -/
theorem test_reset_after_fault :
    let t := applyReset (ticked (flt ⟨false, .zero⟩))
    t.fault = none ∧ t.tick = 0 ∧ t.box = State.reset.box := by decide
/-- One tick of program P7, tick 0: XFER, ACCEPT, ATTACK, NOACC, ACCEPT, ACCEPT, ENTER, DRAIN together. -/
theorem test_all_units_together :
    let s := offering .rectIn 0x0580 (offering .peakIn 10 (offering .barIn 20 (offering .keyIn 5 (offering .uiKeyIn 1
      State.reset))))
    let t := ticked s
    t.box.newSample = 128 ∧ t.peak = ⟨160, 0, true, 10⟩ ∧ t.bar = ⟨0, 20⟩ ∧ t.key = ⟨keyCalc, 5, 5, 0, true⟩ ∧
      t.ui.editMode = true ∧ t.ui.update = true ∧ t.fault = none := by decide
/-- R137 and R138: a script offers a sample, runs a tick and finds nothing delivered yet. -/
theorem test_script :
    (runScript 9 .fresh ([.cfg [.K 4], .reset] ++ snap 5 ++ [.sink .keyOut .stall, .tick 1])).toOption.map
      (fun b => b.machine.map (fun s => s.key.diff)) = some (some 5) := by decide

/-! ### Witnesses: a concrete state and operands that meet the hypotheses of each statement -/

/-- A good state away from reset: a ring buffer with samples of both signs, an envelope, a full slot of each kind, a
segment and a key packet under way, edit mode. -/
def rich : State :=
  { State.reset with
    box := { state := boxIdle, addr := 3, sum := 95, newSample := 100, oldSample := 0, delta := 100, out := 23
             buf := [(0, 100), (2, -5)] }
    peak := ⟨165, 1, true, 10⟩
    qnt := { State.reset.qnt with ov := true, v := 7, md := 12, mm := 5, f := true }
    bar := ⟨2, 20⟩
    key := ⟨keyCalc, 0b0101, 0b0110, 0b0001, false⟩
    ui := { channel := 4, edit := 0, editMode := true, prevKeys := 0b100, led := 0, update := false, ov := true
            frame := ⟨3, 1, 2, 3, false, true⟩ } }

/-- What the statements ask of the state of a scripted machine: queues given, no raw trace. -/
def scripted (s : State) (q : InPorts (List Item)) : State := s.setEnv { s.env with queues := q }

/-- No output is ready in the coming tick. -/
def stalled (s : State) : State := placeInputs s { rawInputs s with readys := .const false }

theorem rich_good : Inv rich := by decide

theorem witness_GoodStatesSelectLegalOperations : Inv rich := rich_good
theorem witness_DecodeInvertsEncode : Instr.wellFormed .uioKeep = true := rfl
theorem witness_RectMagnitudeIsExact : (offering .rectIn 0x8080 rich).cfg.wellFormed = true := by decide
theorem witness_RectOperationsComplete :
    inXfer .rectIn (offering .rectIn 0x0580 rich) = true ∧
      inXfer .rectIn (scripted rich { rich.env.queues with rectIn := [⟨1, true, true⟩, ⟨2, true, true⟩] }) = true := by
  decide
theorem witness_BoxAcceptLatches :
    let s := offering .rectIn 0x0580 rich
    s.box.state = boxIdle ∧ boxInValid s = true ∧ s.box.addr < s.cfg.D := by decide
theorem witness_BoxWriteReplacesOneWord :
    let s := rich.setBox { rich.box with state := boxWrite }
    Inv s ∧ s.box.state = boxWrite := by decide
/-- Both at the last address and before it. -/
theorem witness_BoxAccumAddsExactly :
    let s := rich.setBox { rich.box with state := boxAccum, sum := -5 }
    let u := s.setBox { s.box with addr := 2 }
    (Inv s ∧ s.box.state = boxAccum ∧ s.box.addr + 1 = s.cfg.D) ∧ (Inv u ∧ u.box.state = boxAccum) := ⟨by decide, by decide⟩
theorem witness_BoxEmitsFloorAverage :
    let s := rich.setBox { rich.box with state := boxEmit, sum := -5, buf := [(2, -5)] }
    Inv s ∧ s.box.state = boxEmit := by decide
theorem witness_BoxWaitsHoldsDrains :
    let s := rich.setBox { rich.box with state := boxWait }
    s.box.state = boxWait ∧ outReady .boxOut s = true := by decide
theorem witness_BoxEmitsMovingAverage :
    let s := offering .rectIn 0x0580 rich
    Inv s ∧ s.box.state = boxIdle ∧ boxInValid s = true ∧
      (∀ j, j < s.cfg.D → s.box.buf.read ((s.box.addr + s.cfg.D - 1 - j) % s.cfg.D) = [-5, 0, 100].getD j 0) ∧
      (cleanRun 4 s).isSome = true := by decide
theorem witness_PeakAttackTracksInput :
    let s := offering .peakIn 11 rich
    Inv s ∧ peakAccept s = true ∧ peakInt s < peakX s := by decide
/-- `x = peak_int` at both counts. -/
theorem witness_PeakHoldsAndDecays :
    let s := offering .peakIn 10 rich
    let u := s.setPeak { s.peak with count := 0 }
    (Inv s ∧ peakAccept s = true ∧ peakX s ≤ peakInt s ∧ s.peak.count = s.cfg.n - 1) ∧
      (Inv u ∧ peakAccept u = true ∧ peakX u ≤ peakInt u ∧ u.peak.count ≠ u.cfg.n - 1) := ⟨by decide, by decide⟩
theorem witness_PeakKeepsAndDrains : peakAccept rich = false ∧ outReady .peakOut rich = true := by decide
theorem witness_PeakDecayLowersThePeak :
    1 ≤ peakInt (rich.setPeak { rich.peak with peak := 16 }) ∧ exec .peakDecay rich = .next (did .peakDecay rich) :=
  ⟨by decide, rfl⟩
/-- At the boundaries `data = hi` and `data = lo`, and with `mul = 0`. -/
theorem witness_QntEmitsImmediately :
    let hi := (busy 1 32).setQnt rich.qnt
    let lo := (busy 1 8).setQnt rich.qnt
    let half := (State.resetWith { Config.default with mul := [15, 0, 1] }).setBar ⟨1, 9⟩
    (hi.qnt.state = qntIdle ∧ qntAccept hi = true ∧ (barQ hi).hi ≤ (barQ hi).data) ∧
    (lo.qnt.state = qntIdle ∧ qntAccept lo = true ∧ (barQ lo).data < (barQ lo).hi ∧ (barQ lo).data ≤ (barQ lo).lo) ∧
    (half.qnt.state = qntIdle ∧ qntAccept half = true ∧ (barQ half).data < (barQ half).hi ∧
      (barQ half).lo < (barQ half).data ∧ (barQ half).mul = 0) ∧
    ((stalled rich).qnt.state = qntIdle ∧ qntAccept (stalled rich) = false) := by decide
theorem witness_QntDefersOneCycle :
    let s := rich.setBar ⟨1, 31⟩
    Inv s ∧ s.qnt.state = qntIdle ∧ qntAccept s = true ∧ (barQ s).data < (barQ s).hi ∧ (barQ s).lo < (barQ s).data ∧
      (barQ s).mul ≠ 0 := by decide
theorem witness_QntMultiplies :
    let s := rich.setQnt { rich.qnt with state := qntMul, ov := false }
    let u := rich.setQnt { rich.qnt with state := qntMul }
    (s.qnt.state = qntMul ∧ s.qnt.ov = false) ∧ (u.qnt.state = qntMul ∧ u.qnt.ov = true) := by decide
theorem witness_QntComputesTheItemsValue :
    let s := rich.setBar ⟨1, 20⟩
    Inv s ∧ qntAccept s = true ∧ selected .qnt s = some .qntDefer := by decide
theorem witness_WellScaledSegmentIsMonotone : Config.default.wellFormed = true ∧ wellScaled .default 8 32 5 := by
  unfold wellScaled; decide
theorem witness_BarSequencesSegments :
    let s := offering .barIn 255 (rich.setBar ⟨3, 20⟩)
    rich.bar.idx < rich.cfg.N ∧ s.bar.idx = s.cfg.N ∧ inValid .barIn s = true := by decide
theorem witness_PacketShape :
    Config.default.wellFormed = true ∧
    (∀ i, i < Config.default.N →
      wellScaled .default (Config.default.thrAt i) (Config.default.thrAt (i + 1)) (Config.default.mulAt i)) ∧
    (Config.default.thrAt 1 ≤ 8 ∧ 8 < Config.default.thrAt 2) ∧ Config.default.thrAt Config.default.N ≤ 100 ∧
    Config.wellFormed { Config.default with thr := [2, 10, 34, 102] } = true := by
  unfold wellScaled; decide
theorem witness_SampleGivesOnePacket :
    let s := scripted { rich with bar := ⟨3, 0⟩, qnt := { rich.qnt with ov := false } }
      { rich.env.queues with barIn := [⟨20, false, false⟩] }
    Inv s ∧ s.env.trace = [] ∧ s.env.queues.barIn = [⟨20, false, false⟩] ∧ s.env.sinks.qntOut = .ready ∧
      s.bar.idx = s.cfg.N ∧ s.qnt.state = qntIdle ∧ s.qnt.ov = false ∧ 2 * s.cfg.N + 2 ≤ 8 ∧
      (cleanRun 8 s).isSome = true := by decide
theorem witness_KeyAcceptsAndWaits :
    let s := offering .keyIn 0b1010 (rich.setKey { rich.key with state := keyIdle })
    Inv s ∧ s.key.state = keyIdle ∧ inValid .keyIn s = true := by decide
theorem witness_KeyIsolatesTheLowestBit : Inv rich ∧ rich.key.state = keyCalc ∧ rich.key.diff ≠ 0 := by decide
theorem witness_KeySendReportsOneBit :
    let s := rich.setKey ⟨keySend, 0b0101, 0b0110, 0b0010, true⟩
    Inv s ∧ s.key.state = keySend ∧ outReady .keyOut s = true := by decide
theorem witness_SnapshotGivesItsEvents :
    let s := scripted (rich.setKey { rich.key with state := keyIdle })
      { rich.env.queues with keyIn := [⟨0b0110, false, false⟩, ⟨0, false, false⟩] }
    Inv s ∧ s.env.trace = [] ∧ s.env.queues.keyIn = ⟨0b0110, false, false⟩ :: [⟨0, false, false⟩] ∧
      s.env.sinks.keyOut = .ready ∧ s.key.state = keyIdle ∧
      (cleanRun (2 * popcount s.cfg.K (s.key.prev ^^^ storeU s.cfg.K 0b0110) + 2) s).isSome = true := by decide
theorem witness_UikEntersAndCommits : uikAccept (offering .uiKeyIn 0b001 rich) = true := by decide
/-- At both ends of the channels. -/
theorem witness_UikStepsWrap :
    let s := offering .uiKeyIn 0b110 rich
    let u := s.setUi { s.ui with edit := 4 }
    (Inv s ∧ uikAccept s = true ∧ s.ui.edit = 0) ∧ (Inv u ∧ uikAccept u = true ∧ u.ui.edit + 1 = u.cfg.chans) := ⟨by decide, by decide⟩
/-- At the first and the last step of a sweep. -/
theorem witness_UioSweepsOneFrame :
    let s := rich.setUi { rich.ui with update := true }
    let u := rich.setUi { rich.ui with led := 7 }
    (Inv s ∧ uiRenderReq s = true ∧ uiSlotFree s = true ∧ s.ui.led ≠ s.cfg.leds - 1) ∧
      (Inv u ∧ uiRenderReq u = true ∧ uiSlotFree u = true ∧ u.ui.led = u.cfg.leds - 1) := ⟨by decide, by decide⟩
theorem witness_UioPassesAndDrains :
    (uiRenderReq rich = false ∧ uiSlotFree rich = true ∧ inValid .uiPtIn rich = false) ∧
      inValid .uiPtIn (offering .uiPtIn 0x7FFF rich) = true ∧ uiSlotFree (offering .uiPtIn 0x7FFF rich) = true := by
  decide
/-- At the first and the last frame. -/
theorem witness_SweepEmitsEveryFrame :
    let s := rich.setUi { rich.ui with update := true }
    Inv s ∧ s.env.trace = [] ∧ s.env.sinks.uiOut = .ready ∧ s.ui.update = true ∧ s.ui.led = 0 ∧
      (1 ≤ 1 ∧ 1 ≤ s.cfg.leds ∧ (cleanRun 1 s).isSome = true) ∧
      (1 ≤ 8 ∧ 8 ≤ s.cfg.leds ∧ (cleanRun 8 s).isSome = true) := by decide
theorem witness_HalvesDoNotClash : uikAccept (offering .uiKeyIn 0b010 rich) = true := by decide
/-- A step that commits a channel, and one that changes the candidate. -/
theorem witness_SelectionChangesOnlyByKeys :
    let s := offering .uiKeyIn 0b001 rich
    let u := offering .uiKeyIn 0b010 (rich.setUi { rich.ui with prevKeys := 0 })
    (step s = .next (ticked s) ∧ (ticked s).ui.channel ≠ s.ui.channel) ∧
      (step u = .next (ticked u) ∧ (ticked u).ui.edit ≠ u.ui.edit) := ⟨⟨rfl, by decide⟩, rfl, by decide⟩

/-- The operations the units select in the tick after `rich`. -/
def richOps : UnitId → Instr
  | .rect => .rectNone
  | .box => .boxWaitin
  | .peak => .peakDrain
  | .qnt => .qntSatlo
  | .bar => .barPresent
  | .key => .keyIsolate
  | .uik => .uikNone
  | .uio => .uioDrain

/-- Both where the checks pass and where one fails. -/
theorem witness_StepRunsSelectedOperations :
    let bad := rich.setBox { rich.box with sum := 96 }
    (rich.fault = none ∧ envKeeps rich = true ∧ (∀ u, selected u rich = some (richOps u)) ∧
      (∀ u, exec (richOps u) rich = .next (did (richOps u) rich)) ∧ (∀ u, (did (richOps u) rich).fault = none) ∧
      failedAssertion (commit rich (fun u => did (richOps u) rich)) = none) ∧
    (bad.fault = none ∧ envKeeps bad = true ∧ (∀ u, selected u bad = some (richOps u)) ∧
      (∀ u, exec (richOps u) bad = .next (did (richOps u) bad)) ∧ (∀ u, (did (richOps u) bad).fault = none) ∧
      failedAssertion (commit bad (fun u => did (richOps u) bad)) = some (.assertion .box 25)) := by
  refine ⟨⟨rfl, by decide, fun u => ?_, fun u => ?_, fun u => ?_, by decide⟩,
    rfl, by decide, fun u => ?_, fun u => ?_, fun u => ?_, by decide⟩ <;> cases u <;> rfl
theorem witness_TransfersFollowTheHandshake : step rich = .next (ticked rich) ∧ (ticked rich).fault = none :=
  ⟨rfl, by decide⟩
theorem witness_OutputsAreHeldUntilTaken :
    let s := stalled rich
    Inv s ∧ step s = .next (ticked s) ∧ outValid .uiOut s = true ∧ outReady .uiOut s = false :=
  ⟨by decide, rfl, by decide, by decide⟩
theorem witness_MonitorsRecordPendingOffers :
    let s := offering .barIn 9 rich
    step s = .next (ticked s) ∧ (ticked s).fault = none ∧ inValid .barIn s = true ∧ inReady .barIn s = false :=
  ⟨rfl, by decide, by decide, by decide⟩
theorem witness_ScriptedOffersKeepTheObligation :
    let s := scripted { rich with mon := { rich.mon with barIn := ⟨true, ⟨9, false, false⟩⟩ } }
      { rich.env.queues with barIn := [⟨9, false, false⟩] }
    s.env.trace = [] ∧ ((s.mon.get .barIn).pending = true ∧ inValid .barIn s = true ∧
      (s.mon.get .barIn).item = inItem .barIn s) ∧ (∀ p ∈ InPort.all, p ≠ .barIn → (s.mon.get p).pending = false) ∧
      step s = .next (ticked s) ∧ (ticked s).fault = none :=
  ⟨rfl, by decide, by decide, rfl, by decide⟩
theorem witness_IdlePayloadsAreNeverRead : rich.env.trace = [] := rfl
theorem witness_BootGivesAGoodState : Config.default.wellFormed = true := by decide
theorem witness_StepKeepsTheInvariant : Inv rich ∧ step rich = .next (ticked rich) := ⟨rich_good, rfl⟩
theorem witness_GoodStatesRunWithoutFault : Inv rich ∧ rich.fault = none ∧ envKeeps rich = true :=
  ⟨rich_good, rfl, by decide⟩
theorem witness_StepKeepsTheConfiguration : step rich = .next (ticked rich) := rfl
theorem witness_BrokenObligationFaults :
    let s := flt ⟨false, .zero⟩
    s.fault = none ∧ breaches s .rectIn = true ∧ (∀ q ∈ InPort.all, q ≠ .rectIn → breaches s q = false) := by decide
theorem witness_IllegalSelectorFaults :
    let s := rich.setBox { rich.box with state := 7 }
    s.fault = none ∧ envKeeps s = true ∧ selected .box s = none ∧
      (∀ v ∈ UnitId.all, v ≠ .box → (selected v s).isSome = true) := by decide
/-- The first index that does not exist, and the last that does. -/
theorem witness_RingIndexOutsideTheBufferStops :
    let s := rich.setBox { rich.box with addr := 4 }
    s.cfg.D ≤ s.box.addr ∧ Inv rich := by decide
theorem witness_HaltLastsUntilReset :
    (ticked (flt ⟨false, .zero⟩)).fault = some (.envProtocol .rectIn 2) := by decide
theorem witness_PortsAfterReset : Inv rich := rich_good
theorem witness_ConfigurationCheck :
    Config.wellFormed { Config.default with bright := 15 } = true ∧
      Config.wellFormed { Config.default with bright := 16 } = false := by decide

end Sys2Proof.Tests
end

section
/-! PROOF. What each unit selects (30_encoding.md R113-R119), as a function of its registers and signals: the decoder
evaluated on the words the unit can form. -/

namespace Sys2Proof.Machine

/-! ### The rows of each unit -/

theorem decode_boxWord : ∀ (st : BitVec 3) (c0 c1 : Bool),
    decode (mkSel UnitId.box.code (st.setWidth 4) c0 c1 false false) =
      if st = boxIdle then some (if c0 then .boxAccept else .boxWaitin)
      else if st = boxWrite then some .boxWrite
      else if st = boxAccum then some .boxAccum
      else if st = boxEmit then some .boxEmit
      else if st = boxWait then some (if c1 then .boxDrain else .boxHold)
      else none := by decide

theorem decode_peakWord : ∀ c0 c1 c2 c3 : Bool,
    decode (mkSel UnitId.peak.code 0 c0 c1 c2 c3) =
      some (if c0 then (if c1 then .peakAttack else if c2 then .peakDecay else .peakHold)
        else if c3 then .peakDrain else .peakKeep) := by decide

theorem decode_qntWord : ∀ (st : BitVec 1) (c0 c1 c2 c3 : Bool),
    decode (mkSel UnitId.qnt.code (st.setWidth 4) c0 c1 c2 c3) =
      some (if st = qntMul then .qntMul
        else if c0 then (if c1 then .qntSathi else if c2 then .qntSatlo else if c3 then .qntHalf else .qntDefer)
        else .qntNoacc) := by decide

theorem decode_barWord : ∀ (st : BitVec 4) (c0 c1 : Bool),
    decode (mkSel UnitId.bar.code st c0 c1 false false) =
      if st = 1 then some (if c0 then .barAccept else .barWaitin)
      else if st = 0 then some (if c1 then .barPresent else .barStall)
      else none := by decide

theorem decode_keyWord : ∀ (st : BitVec 2) (c0 c1 c2 : Bool),
    decode (mkSel UnitId.key.code (st.setWidth 4) c0 c1 c2 false) =
      if st = keyIdle then some (if c0 then .keyAccept else .keyWaitin)
      else if st = keyCalc then some (if c1 then .keyDone else .keyIsolate)
      else if st = keySend then some (if c2 then .keySend else .keySendwait)
      else none := by decide

theorem decode_uikWord : ∀ editMode c0 c1 c2 c3 : Bool,
    decode (mkSel UnitId.uik.code (BitVec.ofBool editMode |>.setWidth 4) c0 c1 c2 c3) =
      some (if !c0 then .uikNone
        else if !editMode then (if c1 then .uikEnter else .uikIgnore0)
        else if c1 then .uikCommit
        else if !c2 then .uikIgnore1
        else if c3 then .uikStepUp else .uikStepDown) := by decide

theorem decode_uioWord : ∀ sweep c0 c1 c2 c3 : Bool,
    decode (mkSel UnitId.uio.code (BitVec.ofBool sweep |>.setWidth 4) c0 c1 c2 c3) =
      some (if sweep then (if c0 then (if c2 then .uioRlast else .uioRstep) else .uioRstall)
        else if c0 then (if c1 then .uioPass else .uioDrain) else .uioKeep) := by decide

/-! ### The operation each unit selects -/

theorem selected_box (s : State) :
    selected .box s =
      if s.box.state = boxIdle then some (if boxInValid s then .boxAccept else .boxWaitin)
      else if s.box.state = boxWrite then some .boxWrite
      else if s.box.state = boxAccum then some .boxAccum
      else if s.box.state = boxEmit then some .boxEmit
      else if s.box.state = boxWait then some (if outReady .boxOut s then .boxDrain else .boxHold)
      else none := decode_boxWord _ _ _

theorem selected_peak (s : State) :
    selected .peak s =
      some (if peakAccept s then
          (if peakAttacks s then .peakAttack else if peakCntLast s then .peakDecay else .peakHold)
        else if outReady .peakOut s then .peakDrain else .peakKeep) := decode_peakWord _ _ _ _

theorem selected_qnt (s : State) :
    selected .qnt s =
      some (if s.qnt.state = qntMul then .qntMul
        else if qntAccept s then
          (if qntGeHi s then .qntSathi else if qntLeLo s then .qntSatlo
            else if qntMulZero s then .qntHalf else .qntDefer)
        else .qntNoacc) := decode_qntWord _ _ _ _ _

theorem selected_bar (s : State) :
    selected .bar s =
      if s.bar.idx = s.cfg.N then some (if inValid .barIn s then .barAccept else .barWaitin)
      else if s.bar.idx < s.cfg.N then some (if barQReady s then .barPresent else .barStall)
      else none := by
  refine (decode_barWord (barSt s) _ _).trans ?_
  unfold barSt
  split_ifs <;> simp_all

theorem selected_key (s : State) :
    selected .key s =
      if s.key.state = keyIdle then some (if inValid .keyIn s then .keyAccept else .keyWaitin)
      else if s.key.state = keyCalc then some (if s.key.diff == 0 then .keyDone else .keyIsolate)
      else if s.key.state = keySend then some (if outReady .keyOut s then .keySend else .keySendwait)
      else none := decode_keyWord _ _ _ _

theorem selected_uik (s : State) :
    selected .uik s =
      some (if !uikAccept s then .uikNone
        else if !s.ui.editMode then (if (uiOn s).testBit s.cfg.swBit then .uikEnter else .uikIgnore0)
        else if (uiOn s).testBit s.cfg.swBit then .uikCommit
        else if !(uiOn s).testBit s.cfg.aBit then .uikIgnore1
        else if (uiSnap s).testBit s.cfg.bBit then .uikStepUp else .uikStepDown) := decode_uikWord _ _ _ _ _

theorem selected_uio (s : State) :
    selected .uio s =
      some (if uiRenderReq s then
          (if uiSlotFree s then (if uiLedLast s then .uioRlast else .uioRstep) else .uioRstall)
        else if uiSlotFree s then (if inValid .uiPtIn s then .uioPass else .uioDrain)
        else .uioKeep) := decode_uioWord _ _ _ _ _

end Sys2Proof.Machine
end

section
/-! PROOF. What an accepted configuration gives (70_reset_and_hazards.md R405), and the arithmetic of fields, of bit masks
and of the ring buffer's sum. -/

namespace Sys2Proof

/-! ### The configuration check -/

theorem Check.mem_all (k : Check) : k ∈ Check.all := by cases k <;> decide

theorem Config.passes_of_wellFormed {c : Config} (h : c.wellFormed = true) (k : Check) : k.passes c = true :=
  List.all_eq_true.mp h k k.mem_all

theorem Config.rect_lt_box {c : Config} (h : c.wellFormed = true) : 1 ≤ c.WR ∧ c.WR + 1 ≤ c.WB := by
  simpa [Check.passes, Config.okRectBox] using Config.passes_of_wellFormed h .rectBox

theorem Config.one_le_WB {c : Config} (h : c.wellFormed = true) : 1 ≤ c.WB := by
  have := Config.rect_lt_box h
  omega

theorem Config.one_le_n {c : Config} (h : c.wellFormed = true) : 1 ≤ c.n := by
  have := Config.passes_of_wellFormed h .peak
  simp only [Check.passes, Config.okPeak, Bool.and_eq_true, decide_eq_true_eq] at this
  exact this.2

theorem Config.one_le_leds {c : Config} (h : c.wellFormed = true) : 1 ≤ c.leds := by
  have := Config.passes_of_wellFormed h .uiRing
  simp only [Check.passes, Config.okUi, Bool.and_eq_true, decide_eq_true_eq] at this
  omega

end Sys2Proof

namespace Sys2Proof.Machine

/-! ### Signed fields -/

theorem natAbs_le_of_inS {w : Nat} {v : Int} (h : inS w v) : v.natAbs ≤ 2 ^ (w - 1) := by
  have hc : ((2 ^ (w - 1) : Nat) : Int) = 2 ^ (w - 1) := by push_cast; rfl
  obtain ⟨hl, hu⟩ := h
  omega

theorem inS_of_natAbs_lt {w : Nat} {v : Int} (h : v.natAbs < 2 ^ (w - 1)) : inS w v := by
  have hc : ((2 ^ (w - 1) : Nat) : Int) = 2 ^ (w - 1) := by push_cast; rfl
  constructor <;> omega

theorem inS_sub {w : Nat} {x y : Int} (hw : 1 ≤ w) (hx : inS w x) (hy : inS w y) : inS (w + 1) (x - y) := by
  have hsplit := two_pow_split hw
  obtain ⟨hx1, hx2⟩ := hx
  obtain ⟨hy1, hy2⟩ := hy
  constructor <;> rw [Nat.add_sub_cancel] <;> omega

/-! ### Payloads and bit masks -/

/-- What a port presents fits the port's width (30_encoding.md R120). -/
theorem inItem_payload_inU (p : InPort) (s : State) : inU (p.width s.cfg) (inItem p s).payload := storeU_lt _ _

theorem field_inU (p lo w : Nat) : inU w (field p lo w) := storeU_lt _ _

theorem and_inU {w x : Nat} (y : Nat) (h : inU w x) : inU w (x &&& y) := lt_of_le_of_lt Nat.and_le_left h

/-- `x & -x` has the bits of `x` that `x - 1` lacks. -/
theorem lowestSet_testBit {w x : Nat} (hx : x ≠ 0) (hw : inU w x) (k : Nat) :
    (lowestSet w x).testBit k = (x.testBit k && !(x - 1).testBit k) := by
  have hneg : negate w x = 2 ^ w - (x - 1 + 1) := by
    unfold negate
    rw [Nat.mod_eq_of_lt (by omega)]
    omega
  rw [lowestSet, Nat.testBit_and, hneg, Nat.testBit_two_pow_sub_succ (by omega)]
  by_cases hk : k < w
  · simp [hk]
  · simp [Nat.testBit_lt_two_pow (lt_of_lt_of_le hw (Nat.pow_le_pow_right two_pos (not_lt.mp hk)))]

/-- `x & -x` isolates the lowest set bit of `x` (45_key_serializer.md R294). -/
theorem lowestSet_eq_two_pow {w x : Nat} (hx : x ≠ 0) (hw : inU w x) :
    ∃ j, j < w ∧ x.testBit j = true ∧ (∀ k, k < j → x.testBit k = false) ∧ lowestSet w x = 2 ^ j := by
  obtain ⟨j, m, hodd, rfl⟩ := Nat.exists_eq_two_pow_mul_odd hx
  obtain ⟨m, rfl⟩ := hodd
  have hpos : 0 < 2 ^ j := Nat.two_pow_pos j
  have hsucc : 2 ^ (j + 1) = 2 * 2 ^ j := by ring
  have hlow : 2 ^ j * (2 * m + 1) = 2 ^ (j + 1) * m + 2 ^ j := by ring
  have hpred : 2 ^ j * (2 * m + 1) - 1 = 2 ^ (j + 1) * m + (2 ^ j - 1) := by omega
  have hbits (k : Nat) :
      (2 ^ j * (2 * m + 1)).testBit k = if k < j + 1 then decide (j = k) else m.testBit (k - (j + 1)) := by
    rw [hlow, Nat.testBit_two_pow_mul_add _ (by omega), Nat.testBit_two_pow]
  refine ⟨j, ?_, by simp [hbits], fun k hk => ?_, Nat.eq_of_testBit_eq fun k => ?_⟩
  · refine (Nat.pow_lt_pow_iff_right (by norm_num : 1 < 2)).mp (lt_of_le_of_lt ?_ hw)
    exact Nat.le_mul_of_pos_right _ (by omega)
  · rw [hbits, if_pos (by omega)]
    exact decide_eq_false (by omega)
  · rw [lowestSet_testBit hx hw, hbits, hpred, Nat.testBit_two_pow_mul_add _ (by omega), Nat.testBit_two_pow]
    by_cases hk : k < j + 1
    · by_cases hjk : j = k
      · subst hjk; simp
      · simp [hk, hjk]
    · have : j ≠ k := by omega
      simp [hk, this]

theorem popcount_two_pow {w j : Nat} (hj : j < w) : popcount w (2 ^ j) = 1 := by
  have hpred : (fun i => (2 ^ j).testBit i) = (· == j) := by
    funext i
    simp [Nat.testBit_two_pow, Bool.beq_eq_decide_eq, eq_comm]
  rw [popcount, hpred]
  exact List.count_eq_one_of_mem List.nodup_range (List.mem_range.mpr hj)

/-! ### The sum of the ring buffer -/

theorem Memory.read_inS {w : Nat} {m : Memory} (h : ∀ e ∈ m, inS w e.2) (a : Nat) : inS w (m.read a) := by
  rcases m.read_mem a with hz | hm
  · rw [hz]; exact inS_zero w
  · exact h _ hm

/-- `D` words of `w` bits sum to at most `D * 2^(w-1)` in magnitude (10_state.md R25). -/
theorem Memory.natAbs_total_le {w : Nat} {m : Memory} (h : ∀ e ∈ m, inS w e.2) (D : Nat) :
    (m.total D).natAbs ≤ D * 2 ^ (w - 1) := by
  induction D with
  | zero => simp [Memory.total]
  | succ D ih =>
    have hsucc : m.total (D + 1) = m.total D + m.read D := by simp [Memory.total, List.range_succ]
    calc (m.total (D + 1)).natAbs
        ≤ (m.total D).natAbs + (m.read D).natAbs := hsucc ▸ Int.natAbs_add_le _ _
      _ ≤ D * 2 ^ (w - 1) + 2 ^ (w - 1) := Nat.add_le_add ih (natAbs_le_of_inS (Memory.read_inS h D))
      _ = (D + 1) * 2 ^ (w - 1) := by ring

/-- The sum of the window fits `box.sum`: the `S` bits are wide enough (10_state.md R25). -/
theorem inS_S_of_natAbs_le {c : Config} {v : Int} (hc : c.wellFormed = true) (h : v.natAbs ≤ c.D * 2 ^ (c.WB - 1)) :
    inS c.S v := by
  refine inS_of_natAbs_lt (lt_of_le_of_lt h ?_)
  have hS : c.S - 1 = c.k + 1 + (c.WB - 1) := by
    have := Config.one_le_WB hc
    simp only [Config.S]; omega
  rw [hS, pow_add]
  refine Nat.mul_lt_mul_of_pos_right ?_ (Nat.two_pow_pos _)
  rw [Config.D_eq hc]
  exact Nat.pow_lt_pow_right (by norm_num) (by omega)

end Sys2Proof.Machine
end

section
/-! PROOF. Every unit's operation keeps the unit's part of the invariant (10_state.md R24-R34): one lemma per operation
that writes a register, and one per unit over the operation the unit selects. Each is about the registers the
operation leaves, put back into the state at the start of the tick, which is how the commit takes them (20_memory.md R76);
the run-time checks of 60_exceptions.md R373 are not used. -/

namespace Sys2Proof.Machine

/-! ### BOX (R24, R25) -/

theorem okBoxSum_iff_of_accum {s : State} (h : s.box.state = boxAccum) :
    okBoxSum s = true ↔ s.box.sum + s.box.delta = s.box.buf.total s.cfg.D := by
  rw [okBoxSum, if_pos h, beq_iff_eq]

theorem okBoxSum_iff_of_not_accum {s : State} (h : s.box.state ≠ boxAccum) :
    okBoxSum s = true ↔ s.box.sum = s.box.buf.total s.cfg.D := by
  rw [okBoxSum, if_neg h, beq_iff_eq]

theorem boxAccept_keeps_boxInv {s t : State} (hc : s.cfg.wellFormed = true) (h : BoxInv s)
    (hidle : s.box.state = boxIdle) (he : execBoxAccept s = .next t) : BoxInv (s.setBox t.box) := by
  obtain ⟨-, haddr, -, -, hdelta, hout, hsum, hwf, hbuf, hok, habs, -⟩ := h
  rw [execBoxAccept, memRead_of_lt haddr] at he
  obtain rfl := Host.Outcome.next.inj he
  have hnew : inS s.cfg.WB (boxInX s) := readS_inS (Config.one_le_WB hc) (storeU_lt _ _)
  have hold := Memory.read_inS (fun e hmem => (hbuf e hmem).2) s.box.addr
  have htotal := (okBoxSum_iff_of_not_accum (hidle ▸ by decide)).mp hok
  exact ⟨(by decide : boxWrite ≤ boxWait), haddr, hnew, hold, hdelta, hout, hsum, hwf, hbuf,
    (okBoxSum_iff_of_not_accum (by decide : boxWrite ≠ boxAccum)).mpr htotal, habs, fun _ => rfl⟩

/-- The new word enters the buffer and the old one leaves it; `delta` is their exact difference. -/
theorem boxWrite_keeps_boxInv {s t : State} (hc : s.cfg.wellFormed = true) (h : BoxInv s)
    (hwrite : s.box.state = boxWrite) (he : execBoxWrite s = .next t) : BoxInv (s.setBox t.box) := by
  obtain ⟨-, haddr, hnew, hold, -, hout, hsum, hwf, hbuf, hok, habs, hread⟩ := h
  have hWB := Config.one_le_WB hc
  have hdelta := inS_sub hWB hnew hold
  rw [execBoxWrite, memWrite_of_lt _ haddr, storeS_of_inS hWB hnew,
    storeS_of_inS (Nat.le_add_left 1 _) hdelta] at he
  obtain rfl := Host.Outcome.next.inj he
  have hbuf' : ∀ e ∈ s.box.buf.write s.box.addr s.box.newSample, e.1 < s.cfg.D ∧ inS s.cfg.WB e.2 := fun e hmem =>
    (Memory.mem_write hmem).elim (fun heq => heq ▸ ⟨haddr, hnew⟩) (hbuf e)
  have htotal : s.box.sum + (s.box.newSample - s.box.oldSample) =
      (s.box.buf.write s.box.addr s.box.newSample).total s.cfg.D := by
    rw [Memory.total_write _ hwf haddr, hread hwrite,
      (okBoxSum_iff_of_not_accum (hwrite ▸ by decide)).mp hok]
    ring
  exact ⟨(by decide : boxAccum ≤ boxWait), haddr, hnew, hold, hdelta, hout, hsum, Memory.wf_write _ _ hwf, hbuf',
    (okBoxSum_iff_of_accum rfl).mpr htotal, habs, fun hst => absurd hst (by decide : boxAccum ≠ boxWrite)⟩

/-- The new sum is the sum of the buffer, so no bit of it is lost. -/
theorem boxAccum_keeps_boxInv {s t : State} (hc : s.cfg.wellFormed = true) (h : BoxInv s)
    (haccum : s.box.state = boxAccum) (he : execBoxAccum s = .next t) : BoxInv (s.setBox t.box) := by
  obtain ⟨-, haddr, hnew, hold, hdelta, hout, -, hwf, hbuf, hok, -, -⟩ := h
  have htotal := (okBoxSum_iff_of_accum haccum).mp hok
  have habs : (s.box.sum + s.box.delta).natAbs ≤ s.cfg.D * 2 ^ (s.cfg.WB - 1) :=
    htotal ▸ Memory.natAbs_total_le (fun e hmem => (hbuf e hmem).2) _
  have hsum := inS_S_of_natAbs_le hc habs
  have hstore : storeS s.cfg.S (s.box.sum + s.box.delta) = s.box.sum + s.box.delta :=
    storeS_of_inS (Nat.le_add_left 1 _) hsum
  rw [execBoxAccum, hstore] at he
  obtain rfl := Host.Outcome.next.inj he
  exact ⟨(by decide : boxEmit ≤ boxWait), Nat.mod_lt _ (Nat.zero_lt_of_lt haddr), hnew, hold, hdelta, hout, hsum, hwf,
    hbuf, (okBoxSum_iff_of_not_accum (by decide : boxEmit ≠ boxAccum)).mpr htotal, habs,
    fun hst => absurd hst (by decide : boxEmit ≠ boxWrite)⟩

theorem boxEmit_keeps_boxInv {s t : State} (hc : s.cfg.wellFormed = true) (h : BoxInv s)
    (hemit : s.box.state = boxEmit) (he : execBoxEmit s = .next t) : BoxInv (s.setBox t.box) := by
  obtain ⟨-, haddr, hnew, hold, hdelta, -, hsum, hwf, hbuf, hok, habs, -⟩ := h
  obtain rfl := Host.Outcome.next.inj he
  have htotal := (okBoxSum_iff_of_not_accum (hemit ▸ by decide)).mp hok
  exact ⟨(by decide : boxWait ≤ boxWait), haddr, hnew, hold, hdelta, storeS_inS (Config.one_le_WB hc) _, hsum, hwf,
    hbuf, (okBoxSum_iff_of_not_accum (by decide : boxWait ≠ boxAccum)).mpr htotal, habs,
    fun hst => absurd hst (by decide : boxWait ≠ boxWrite)⟩

theorem boxDrain_keeps_boxInv {s t : State} (h : BoxInv s)
    (hwait : s.box.state = boxWait) (he : execBoxDrain s = .next t) : BoxInv (s.setBox t.box) := by
  obtain ⟨-, haddr, hnew, hold, hdelta, hout, hsum, hwf, hbuf, hok, habs, -⟩ := h
  obtain rfl := Host.Outcome.next.inj he
  have htotal := (okBoxSum_iff_of_not_accum (hwait ▸ by decide)).mp hok
  exact ⟨(by decide : boxIdle ≤ boxWait), haddr, hnew, hold, hdelta, hout, hsum, hwf, hbuf,
    (okBoxSum_iff_of_not_accum (by decide : boxIdle ≠ boxAccum)).mpr htotal, habs,
    fun hst => absurd hst (by decide : boxIdle ≠ boxWrite)⟩

theorem box_keeps_boxInv {s t : State} {i : Instr} (hc : s.cfg.wellFormed = true) (h : BoxInv s)
    (hsel : selected .box s = some i) (he : exec i s = .next t) : BoxInv (s.setBox t.box) := by
  rw [selected_box] at hsel
  split_ifs at hsel with hidle _ hwrite haccum hemit hwait _ <;> cases hsel
  · -- ACCEPT
    exact boxAccept_keeps_boxInv hc h hidle he
  · -- WAITIN
    obtain rfl := Host.Outcome.next.inj he; exact h
  · -- WRITE
    exact boxWrite_keeps_boxInv hc h hwrite he
  · -- ACCUM
    exact boxAccum_keeps_boxInv hc h haccum he
  · -- EMIT
    exact boxEmit_keeps_boxInv hc h hemit he
  · -- DRAIN
    exact boxDrain_keeps_boxInv h hwait he
  · -- HOLD
    obtain rfl := Host.Outcome.next.inj he; exact h

/-! ### PEAK (R26, R27) -/

theorem okPeak_iff (s : State) :
    okPeak s = true ↔ s.peak.count < s.cfg.n ∧ s.peak.peak ≤ (2 ^ s.cfg.WP - 1) * 2 ^ s.cfg.point := by
  simp [okPeak]

/-- The bound of R27 is within the width of R26. -/
theorem inU_peak_of_le {c : Config} {p : Nat} (h : p ≤ (2 ^ c.WP - 1) * 2 ^ c.point) : inU (c.WP + c.point) p := by
  refine lt_of_le_of_lt h ?_
  rw [pow_add]
  exact Nat.mul_lt_mul_of_pos_right (Nat.sub_lt (Nat.two_pow_pos _) one_pos) (Nat.two_pow_pos _)

theorem inU_count_zero (c : Config) : inU c.countWidth 0 := Nat.two_pow_pos _

theorem peakAttack_keeps_peakInv {s t : State} (hc : s.cfg.wellFormed = true) (he : execPeakAttack s = .next t) :
    PeakInv (s.setPeak t.peak) := by
  obtain rfl := Host.Outcome.next.inj he
  have hx : inU s.cfg.WP (peakX s) := inItem_payload_inU .peakIn s
  have hle : storeU (s.cfg.WP + s.cfg.point) (peakX s <<< s.cfg.point) ≤ (2 ^ s.cfg.WP - 1) * 2 ^ s.cfg.point := by
    refine (storeU_le _ _).trans ?_
    rw [Nat.shiftLeft_eq]
    exact Nat.mul_le_mul_right _ (Nat.le_sub_one_of_lt hx)
  exact ⟨inU_peak_of_le hle, inU_count_zero _, hx, (okPeak_iff _).mpr ⟨Config.one_le_n hc, hle⟩⟩

theorem peakHold_keeps_peakInv {s t : State} (h : PeakInv s) (hlast : ¬ peakCntLast s = true)
    (he : execPeakHold s = .next t) : PeakInv (s.setPeak t.peak) := by
  obtain ⟨hpeak, -, -, hok⟩ := h
  obtain ⟨hcount, hle⟩ := (okPeak_iff s).mp hok
  obtain rfl := Host.Outcome.next.inj he
  have hne : s.peak.count ≠ s.cfg.n - 1 := by simpa [peakCntLast] using hlast
  have hnext : storeU s.cfg.countWidth (s.peak.count + 1) < s.cfg.n := lt_of_le_of_lt (storeU_le _ _) (by omega)
  exact ⟨hpeak, storeU_lt _ _, storeU_lt _ _, (okPeak_iff _).mpr ⟨hnext, hle⟩⟩

theorem peakDecay_keeps_peakInv {s t : State} (hc : s.cfg.wellFormed = true) (h : PeakInv s)
    (he : execPeakDecay s = .next t) : PeakInv (s.setPeak t.peak) := by
  obtain ⟨-, -, -, hok⟩ := h
  obtain ⟨-, hle⟩ := (okPeak_iff s).mp hok
  obtain rfl := Host.Outcome.next.inj he
  have hle' : s.peak.peak - peakInt s ≤ (2 ^ s.cfg.WP - 1) * 2 ^ s.cfg.point := (Nat.sub_le _ _).trans hle
  exact ⟨inU_peak_of_le hle', inU_count_zero _, storeU_lt _ _, (okPeak_iff _).mpr ⟨Config.one_le_n hc, hle'⟩⟩

theorem peak_keeps_peakInv {s t : State} {i : Instr} (hc : s.cfg.wellFormed = true) (h : PeakInv s)
    (hsel : selected .peak s = some i) (he : exec i s = .next t) : PeakInv (s.setPeak t.peak) := by
  rw [selected_peak] at hsel
  split_ifs at hsel with _ _ hlast _ <;> cases hsel
  · -- ATTACK
    exact peakAttack_keeps_peakInv hc he
  · -- DECAY
    exact peakDecay_keeps_peakInv hc h he
  · -- HOLD
    exact peakHold_keeps_peakInv h hlast he
  all_goals obtain rfl := Host.Outcome.next.inj he; exact h

/-! ### QNT (R28, R29) -/

theorem qntIdle_of_ne_mul : ∀ st : BitVec 1, st ≠ qntMul → st = qntIdle := by decide

theorem okQntSlot_of_idle {s : State} (h : s.qnt.state = qntIdle) : okQntSlot s = true := by
  rw [okQntSlot, h]; rfl

theorem okQntSlot_of_empty {s : State} (h : s.qnt.ov = false) : okQntSlot s = true := by simp [okQntSlot, h]

theorem outputMax_inU (c : Config) : inU c.OW c.outputMax := Nat.sub_lt (Nat.two_pow_pos _) one_pos

/-- SATHI, SATLO and HALF load the slot in `IDLE`. -/
theorem qntLoad_keeps_qntInv {s : State} {v : Nat} (h : QntInv s) (hidle : s.qnt.state = qntIdle)
    (hv : inU s.cfg.OW v) : QntInv (s.setQnt (qntLoad s v).qnt) := by
  obtain ⟨-, hmd, hmm, -⟩ := h
  exact ⟨hv, hmd, hmm, okQntSlot_of_idle hidle⟩

theorem qntDefer_keeps_qntInv {s t : State} (h : QntInv s) (he : execQntDefer s = .next t) :
    QntInv (s.setQnt t.qnt) := by
  obtain ⟨hv, -, -, -⟩ := h
  obtain rfl := Host.Outcome.next.inj he
  exact ⟨hv, storeU_lt _ _, storeU_lt _ _, okQntSlot_of_empty rfl⟩

theorem qntNoacc_keeps_qntInv {s t : State} (h : QntInv s) (hidle : s.qnt.state = qntIdle)
    (he : execQntNoacc s = .next t) : QntInv (s.setQnt t.qnt) := by
  obtain ⟨hv, hmd, hmm, -⟩ := h
  obtain rfl := Host.Outcome.next.inj he
  exact ⟨hv, hmd, hmm, okQntSlot_of_idle hidle⟩

theorem qntMul_keeps_qntInv {s t : State} (h : QntInv s) (he : execQntMul s = .next t) :
    QntInv (s.setQnt t.qnt) := by
  rw [execQntMul] at he
  split at he
  · obtain rfl := Host.Outcome.next.inj he
    exact h
  · obtain ⟨-, hmd, hmm, -⟩ := h
    obtain rfl := Host.Outcome.next.inj he
    exact ⟨storeU_lt _ _, hmd, hmm, okQntSlot_of_idle rfl⟩

theorem qnt_keeps_qntInv {s t : State} {i : Instr} (h : QntInv s) (hsel : selected .qnt s = some i)
    (he : exec i s = .next t) : QntInv (s.setQnt t.qnt) := by
  have hmax := outputMax_inU s.cfg
  rw [selected_qnt] at hsel
  split_ifs at hsel with hmul _ _ _ _ <;> cases hsel
  · -- MUL
    exact qntMul_keeps_qntInv h he
  · -- SATHI
    obtain rfl := Host.Outcome.next.inj he
    exact qntLoad_keeps_qntInv h (qntIdle_of_ne_mul _ hmul) hmax
  · -- SATLO
    obtain rfl := Host.Outcome.next.inj he
    exact qntLoad_keeps_qntInv h (qntIdle_of_ne_mul _ hmul) (Nat.two_pow_pos _)
  · -- HALF
    obtain rfl := Host.Outcome.next.inj he
    exact qntLoad_keeps_qntInv h (qntIdle_of_ne_mul _ hmul) (lt_of_le_of_lt (Nat.shiftRight_le _ _) hmax)
  · -- DEFER
    exact qntDefer_keeps_qntInv h he
  · -- NOACC
    exact qntNoacc_keeps_qntInv h (qntIdle_of_ne_mul _ hmul) he

/-! ### BAR (R30) -/

theorem bar_keeps_barInv {s t : State} {i : Instr} (h : BarInv s) (hsel : selected .bar s = some i)
    (he : exec i s = .next t) : BarInv (s.setBar t.bar) := by
  have ⟨_, hdata⟩ := h
  rw [selected_bar] at hsel
  split_ifs at hsel with _ _ hbusy _ <;> cases hsel <;> obtain rfl := Host.Outcome.next.inj he
  · -- ACCEPT
    exact ⟨Nat.zero_le _, inItem_payload_inU .barIn s⟩
  · -- WAITIN
    exact h
  · -- PRESENT
    exact ⟨(storeU_le _ _).trans hbusy, hdata⟩
  · -- STALL
    exact h

/-! ### KEY (R31, R32) -/

theorem okKeyMask_of_not_send {s : State} (h : s.key.state ≠ keySend) : okKeyMask s = true := by
  rw [okKeyMask, beq_false_of_ne h]
  rfl

/-- The isolated bit is one bit of `key.diff`, as R32 asks of `SEND`. -/
theorem keyIsolate_keeps_keyInv {s t : State} (h : KeyInv s) (hdiff : ¬ (s.key.diff == 0) = true)
    (he : execKeyIsolate s = .next t) : KeyInv (s.setKey t.key) := by
  obtain ⟨-, hprev, hd, -, -⟩ := h
  obtain rfl := Host.Outcome.next.inj he
  obtain ⟨j, hj, -, -, hmask⟩ := lowestSet_eq_two_pow (by simpa using hdiff) hd
  have hpop : popcount s.cfg.K (lowestSet s.cfg.K s.key.diff) = 1 := by rw [hmask, popcount_two_pow hj]
  have hsub : lowestSet s.cfg.K s.key.diff &&& s.key.diff = lowestSet s.cfg.K s.key.diff := by
    rw [lowestSet, Nat.and_right_comm, Nat.and_self]
  exact ⟨(by decide : keySend ≤ keySend), hprev, hd, and_inU _ hd, by simp [okKeyMask, hpop, hsub]⟩

theorem key_keeps_keyInv {s t : State} {i : Instr} (h : KeyInv s) (hsel : selected .key s = some i)
    (he : exec i s = .next t) : KeyInv (s.setKey t.key) := by
  have ⟨_, hprev, hd, hmask, _⟩ := h
  have hcalc : keyCalc ≠ keySend := by decide
  have hidle : keyIdle ≠ keySend := by decide
  rw [selected_key] at hsel
  split_ifs at hsel with _ _ _ hdiff _ _ <;> cases hsel
  · -- ACCEPT
    obtain rfl := Host.Outcome.next.inj he
    exact ⟨(by decide : keyCalc ≤ keySend), inItem_payload_inU .keyIn s, storeU_lt _ _, hmask,
      okKeyMask_of_not_send hcalc⟩
  · -- WAITIN
    obtain rfl := Host.Outcome.next.inj he; exact h
  · -- DONE
    obtain rfl := Host.Outcome.next.inj he
    exact ⟨(by decide : keyIdle ≤ keySend), hprev, hd, hmask, okKeyMask_of_not_send hidle⟩
  · -- ISOLATE
    exact keyIsolate_keeps_keyInv h hdiff he
  · -- SEND
    obtain rfl := Host.Outcome.next.inj he
    exact ⟨(by decide : keyCalc ≤ keySend), hprev, and_inU _ hd, hmask, okKeyMask_of_not_send hcalc⟩
  · -- SENDWAIT
    obtain rfl := Host.Outcome.next.inj he; exact h

/-! ### UIK and UIO (R33, R34) -/

theorem okUiIndices_iff (s : State) :
    okUiIndices s = true ↔ s.ui.channel < s.cfg.chans ∧ s.ui.edit < s.cfg.chans := by simp [okUiIndices]

theorem okUiLed_iff (s : State) : okUiLed s = true ↔ s.ui.led < s.cfg.leds := by simp [okUiLed]

/-- A step down from any edit index stays within the channels (46_selection.md R329). -/
theorem stepDown_lt {e n : Nat} (h : e < n) : (((e : Int) - 1 + n) % n).toNat < n := by
  have hpos : (0 : Int) < n := by omega
  have hlt := Int.emod_lt_of_pos ((e : Int) - 1 + n) hpos
  have hnonneg := Int.emod_nonneg ((e : Int) - 1 + n) hpos.ne'
  omega

/-- The part of `UiInv` on the registers UIK writes. -/
theorem uik_keeps_indices {s t : State} {i : Instr} (h : UiInv s) (hsel : selected .uik s = some i)
    (he : exec i s = .next t) : okUiIndices (s.setUi t.ui) = true ∧ inU s.cfg.KU t.ui.prevKeys := by
  obtain ⟨hok, -, hkeys, -⟩ := h
  obtain ⟨hchannel, hedit⟩ := (okUiIndices_iff s).mp hok
  have hsnap : inU s.cfg.KU (uiSnap s) := inItem_payload_inU .uiKeyIn s
  rw [okUiIndices_iff]
  rw [selected_uik] at hsel
  split_ifs at hsel <;> cases hsel <;> obtain rfl := Host.Outcome.next.inj he
  · -- NONE
    exact ⟨⟨hchannel, hedit⟩, hkeys⟩
  · -- ENTER
    exact ⟨⟨hchannel, hchannel⟩, hsnap⟩
  · -- IGNORE0
    exact ⟨⟨hchannel, hedit⟩, hsnap⟩
  · -- COMMIT
    exact ⟨⟨hedit, hedit⟩, hsnap⟩
  · -- IGNORE1
    exact ⟨⟨hchannel, hedit⟩, hsnap⟩
  · -- STEP_UP
    exact ⟨⟨hchannel, Nat.mod_lt _ (by omega)⟩, hsnap⟩
  · -- STEP_DOWN
    exact ⟨⟨hchannel, stepDown_lt hedit⟩, hsnap⟩

/-- The colour and address fields of an LED frame are within their widths (R33). -/
def FrameFits (c : Config) (f : Frame) : Prop :=
  inU c.AW f.addr ∧ inU c.CW f.red ∧ inU c.CW f.green ∧ inU c.CW f.blue

theorem ptFrame_fits (s : State) : FrameFits s.cfg (ptFrame s) :=
  ⟨field_inU _ _ _, field_inU _ _ _, field_inU _ _ _, field_inU _ _ _⟩

theorem renderFrame_fits (s : State) : FrameFits s.cfg (renderFrame s) := by
  have hcolour (p : Prop) [Decidable p] : inU s.cfg.CW (if p then storeU s.cfg.CW s.cfg.bright else 0) := by
    split
    · exact storeU_lt _ _
    · exact Nat.two_pow_pos _
  exact ⟨storeU_lt _ _, hcolour _, hcolour _, Nat.two_pow_pos _⟩

theorem uiInv_iff (s : State) :
    UiInv s ↔ okUiIndices s = true ∧ okUiLed s = true ∧ inU s.cfg.KU s.ui.prevKeys ∧ FrameFits s.cfg s.ui.frame :=
  Iff.rfl

/-- The part of `UiInv` on the registers UIO writes. -/
theorem uio_keeps_led_frame {s t : State} {i : Instr} (hc : s.cfg.wellFormed = true) (h : UiInv s)
    (hsel : selected .uio s = some i) (he : exec i s = .next t) :
    okUiLed (s.setUi t.ui) = true ∧ FrameFits s.cfg t.ui.frame := by
  obtain ⟨-, hok, -, hframe⟩ := (uiInv_iff s).mp h
  have hled := (okUiLed_iff s).mp hok
  rw [okUiLed_iff]
  rw [selected_uio] at hsel
  split_ifs at hsel with _ _ hlast _ _ <;> cases hsel <;> obtain rfl := Host.Outcome.next.inj he
  · -- RLAST
    exact ⟨Config.one_le_leds hc, renderFrame_fits s⟩
  · -- RSTEP
    have hne : s.ui.led ≠ s.cfg.leds - 1 := by simpa [uiLedLast] using hlast
    have hnext : s.ui.led + 1 < s.cfg.leds := by omega
    exact ⟨lt_of_le_of_lt (storeU_le _ _) hnext, renderFrame_fits s⟩
  · -- RSTALL
    exact ⟨hled, hframe⟩
  · -- PASS
    exact ⟨hled, ptFrame_fits s⟩
  · -- DRAIN
    exact ⟨hled, hframe⟩
  · -- KEEP
    exact ⟨hled, hframe⟩

/-! ### The commit -/

/-- When every unit runs the operation it selects, the committed registers of a good state are good. -/
theorem commit_keeps_inv {s : State} {after : UnitId → State} (h : Inv s)
    (hrun : ∀ u, ∃ i, selected u s = some i ∧ exec i s = .next (after u)) : Inv (commit s after) := by
  obtain ⟨hc, hbox, hpeak, hqnt, hbar, hkey, hui⟩ := h
  obtain ⟨_, selBox, exeBox⟩ := hrun .box
  obtain ⟨_, selPeak, exePeak⟩ := hrun .peak
  obtain ⟨_, selQnt, exeQnt⟩ := hrun .qnt
  obtain ⟨_, selBar, exeBar⟩ := hrun .bar
  obtain ⟨_, selKey, exeKey⟩ := hrun .key
  obtain ⟨_, selUik, exeUik⟩ := hrun .uik
  obtain ⟨_, selUio, exeUio⟩ := hrun .uio
  obtain ⟨hindices, hkeys⟩ := uik_keeps_indices hui selUik exeUik
  obtain ⟨hled, hframe⟩ := uio_keeps_led_frame hc hui selUio exeUio
  exact ⟨hc, box_keeps_boxInv hc hbox selBox exeBox, peak_keeps_peakInv hc hpeak selPeak exePeak,
    qnt_keeps_qntInv hqnt selQnt exeQnt, bar_keeps_barInv hbar selBar exeBar, key_keeps_keyInv hkey selKey exeKey,
    hindices, hled, hkeys, hframe⟩

end Sys2Proof.Machine
end

section
/-! PROOF. The statements of 10_state.md. -/

namespace Sys2Proof.Machine

/-! ### A step, over the registers -/

/-- What a step does to the state: nothing but the fault register is written, or every unit runs the operation it selects
and the results are committed together. -/
theorem step_registers_cases {s t : State} (h : step s = .next t) :
    (∃ f, t = takeFault f s) ∨
      ∃ after : UnitId → State, (∀ u, ∃ i, selected u s = some i ∧ exec i s = .next (after u)) ∧
        t = endTick s (commit s after) := by
  obtain ⟨-, hfault | ⟨hclean, ht⟩⟩ := step_next_cases h
  · exact .inl hfault
  · refine .inr ⟨unitState s, fun u => ?_, ht⟩
    obtain ⟨i, hsel, hexec, -⟩ := hclean.executed u
    exact ⟨i, hsel, hexec⟩

/-- What UIK's operation does to the selection (46_selection.md R323-R329). -/
theorem uik_selection_cases {s t : State} {i : Instr} (hsel : selected .uik s = some i) (he : exec i s = .next t) :
    (t.ui.channel ≠ s.ui.channel → i = .uikCommit ∧ t.ui.channel = s.ui.edit ∧ t.ui.editMode = false) ∧
    (t.ui.edit ≠ s.ui.edit → i = .uikEnter ∨ s.ui.editMode = true ∧ (i = .uikStepUp ∨ i = .uikStepDown)) := by
  rw [selected_uik] at hsel
  split_ifs at hsel with _ hmode _ _ _ _ <;> cases hsel <;> obtain rfl := Host.Outcome.next.inj he
  · -- NONE
    exact ⟨fun h => absurd rfl h, fun h => absurd rfl h⟩
  · -- ENTER
    exact ⟨fun h => absurd rfl h, fun _ => .inl rfl⟩
  · -- IGNORE0
    exact ⟨fun h => absurd rfl h, fun h => absurd rfl h⟩
  · -- COMMIT
    exact ⟨fun _ => ⟨rfl, rfl, rfl⟩, fun h => absurd rfl h⟩
  · -- IGNORE1
    exact ⟨fun h => absurd rfl h, fun h => absurd rfl h⟩
  · -- STEP_UP
    exact ⟨fun h => absurd rfl h, fun _ => .inr ⟨by simpa using hmode, .inl rfl⟩⟩
  · -- STEP_DOWN
    exact ⟨fun h => absurd rfl h, fun _ => .inr ⟨by simpa using hmode, .inr rfl⟩⟩

/-! ### The statements -/

/-- Settles O53: neither taking a fault nor the commit writes the configuration. -/
theorem stepKeepsTheConfiguration : Obligations.StepKeepsTheConfiguration := by
  intro s t h
  obtain ⟨f, rfl⟩ | ⟨after, -, rfl⟩ := step_registers_cases h
  · exact takeFault_cfg f s
  · rfl

/-- Settles O43: the committed selection is UIK's, and only COMMIT, ENTER and the two steps change it. -/
theorem selectionChangesOnlyByKeys : Obligations.SelectionChangesOnlyByKeys := by
  intro s t h
  obtain ⟨f, rfl⟩ | ⟨after, hrun, rfl⟩ := step_registers_cases h
  · exact ⟨fun hne => absurd rfl hne, fun hne => absurd rfl hne⟩
  · obtain ⟨i, hsel, hexec⟩ := hrun .uik
    simp only [hsel, Option.some.injEq]
    have hselection := uik_selection_cases hsel hexec
    exact hselection

/-- Settles O51: taking a fault leaves every register as it was, and the commit keeps the invariant unit by unit. -/
theorem stepKeepsTheInvariant : Obligations.StepKeepsTheInvariant := by
  intro s t hs h
  obtain ⟨f, rfl⟩ | ⟨after, hrun, rfl⟩ := step_registers_cases h
  · exact hs
  · have hcommit : Inv (commit s after) := commit_keeps_inv hs hrun
    exact hcommit

end Sys2Proof.Machine
end

section
/-! PROOF. The ports of 20_memory.md R92, each with the one unit that owns it: what a step leaves in the queue, in the log
and in the offer of a port is what that unit's operation leaves there. -/

namespace Sys2Proof.Machine

/-! ### The owners of the ports -/

/-- The unit that takes the items of an input port (20_memory.md R92). -/
def InPort.unit : InPort → UnitId
  | .rectIn => .rect
  | .peakIn => .peak
  | .barIn => .bar
  | .keyIn => .key
  | .uiKeyIn => .uik
  | .uiPtIn => .uio

/-- The unit that offers the items of an output port (20_memory.md R92). -/
def OutPort.unit : OutPort → UnitId
  | .boxOut => .box
  | .peakOut => .peak
  | .qntOut => .qnt
  | .keyOut => .key
  | .uiOut => .uio

/-- The committed queue of an input port is the one its owner left. -/
theorem commit_queue (s : State) (after : UnitId → State) (p : InPort) :
    (commit s after).env.queues.get p = (after p.unit).env.queues.get p := by cases p <;> rfl

/-- The committed log of an output port is the one its owner left. -/
theorem commit_log (s : State) (after : UnitId → State) (p : OutPort) :
    (commit s after).env.taken.get p = (after p.unit).env.taken.get p := by cases p <;> rfl

/-- After a tick an output port is valid exactly when the registers its owner left make it so. -/
theorem outValid_endTick_commit (s : State) (after : UnitId → State) (p : OutPort) :
    outValid p (endTick s (commit s after)) = outValid p (after p.unit) := by cases p <;> rfl

/-- After a tick an output port presents the item in the registers its owner left. -/
theorem outItem_endTick_commit {s : State} {after : UnitId → State} {p : OutPort} (hcfg : (after p.unit).cfg = s.cfg) :
    outItem p (endTick s (commit s after)) = outItem p (after p.unit) :=
  calc outItem p (endTick s (commit s after))
      = outItem p { after p.unit with cfg := s.cfg } := by cases p <;> rfl
    _ = outItem p (after p.unit) := by rw [← hcfg]

end Sys2Proof.Machine
end

section
/-! PROOF. What a unit does whose offer is not taken (20_memory.md R73, R74). -/

namespace Sys2Proof.Machine

/-! ### The operation selected -/

theorem slotFree_of_untaken {ov ready : Bool} (hv : ov = true) (hr : ready = false) : slotFree ov ready = false := by
  rw [hv, hr]; rfl

theorem selected_box_of_untaken {s : State} (hv : outValid .boxOut s = true) (hr : outReady .boxOut s = false) :
    selected .box s = some .boxHold := by
  have hwait : s.box.state = boxWait := eq_of_beq hv
  rw [selected_box, hwait, hr]
  rfl

theorem selected_peak_of_untaken {s : State} (hv : outValid .peakOut s = true) (hr : outReady .peakOut s = false) :
    selected .peak s = some .peakKeep := by
  have hslot : peakSlotFree s = false := slotFree_of_untaken hv hr
  have haccept : peakAccept s = false := by rw [peakAccept, peakInReady, hslot, Bool.and_false]
  rw [selected_peak, haccept, hr]
  rfl

/-- The slot is full, so QNT is not in `MUL` (10_state.md R29) and accepts nothing. -/
theorem selected_qnt_of_untaken {s : State} (hok : okQntSlot s = true) (hv : outValid .qntOut s = true)
    (hr : outReady .qntOut s = false) : selected .qnt s = some .qntNoacc := by
  have hov : s.qnt.ov = true := hv
  have hmul : s.qnt.state ≠ qntMul := by simpa [okQntSlot, hov] using hok
  have hslot : qntSlotFree s = false := slotFree_of_untaken hv hr
  have haccept : qntAccept s = false := by rw [qntAccept, qntInReady, hslot, Bool.and_false, Bool.and_false]
  rw [selected_qnt, if_neg hmul, haccept]
  rfl

theorem selected_key_of_untaken {s : State} (hv : outValid .keyOut s = true) (hr : outReady .keyOut s = false) :
    selected .key s = some .keySendwait := by
  have hsend : s.key.state = keySend := eq_of_beq hv
  rw [selected_key, hsend, hr]
  rfl

theorem selected_uio_of_untaken {s : State} (hv : outValid .uiOut s = true) (hr : outReady .uiOut s = false) :
    selected .uio s = some (if uiRenderReq s then .uioRstall else .uioKeep) := by
  have hslot : uiSlotFree s = false := slotFree_of_untaken hv hr
  rw [selected_uio, hslot]
  rfl

/-! ### The offer after the operation -/

/-- The owner of an output port whose offer is not taken leaves the offer as it is: it runs the operation that waits, or
in QNT the one that drains a slot only when it is taken. -/
theorem exec_keeps_untaken_offer {s t : State} {p : OutPort} {i : Instr} (hok : okQntSlot s = true)
    (hv : outValid p s = true) (hr : outReady p s = false) (hsel : selected p.unit s = some i)
    (he : exec i s = .next t) : t.cfg = s.cfg ∧ outValid p t = true ∧ outItem p t = outItem p s := by
  cases p with
  | boxOut =>
    obtain rfl := Option.some.inj ((selected_box_of_untaken hv hr).symm.trans hsel)
    obtain rfl := Host.Outcome.next.inj he
    exact ⟨rfl, hv, rfl⟩
  | peakOut =>
    obtain rfl := Option.some.inj ((selected_peak_of_untaken hv hr).symm.trans hsel)
    obtain rfl := Host.Outcome.next.inj he
    exact ⟨rfl, hv, rfl⟩
  | qntOut =>
    obtain rfl := Option.some.inj ((selected_qnt_of_untaken hok hv hr).symm.trans hsel)
    obtain rfl := Host.Outcome.next.inj he
    have hov : s.qnt.ov = true := hv
    simp [outValid, outItem, hov, hr]
  | keyOut =>
    obtain rfl := Option.some.inj ((selected_key_of_untaken hv hr).symm.trans hsel)
    obtain rfl := Host.Outcome.next.inj he
    exact ⟨rfl, hv, rfl⟩
  | uiOut =>
    obtain rfl := Option.some.inj ((selected_uio_of_untaken hv hr).symm.trans hsel)
    split_ifs at he <;> obtain rfl := Host.Outcome.next.inj he
    · -- RSTALL
      exact ⟨rfl, hv, rfl⟩
    · -- KEEP
      exact ⟨rfl, hv, rfl⟩

end Sys2Proof.Machine
end

section
/-! PROOF. Which items a unit's operation moves (20_memory.md R71, R78, R86): one lemma per port, over the operation that
the port's owner selects. -/

namespace Sys2Proof.Machine

/-! ### The operation of RECT -/

theorem decode_rectWord : ∀ c0 c1 : Bool,
    decode (mkSel UnitId.rect.code 0 c0 c1 false false) =
      some (if c0 then (if c1 then .rectXfer else .rectStall) else .rectNone) := by decide

theorem selected_rect (s : State) :
    selected .rect s =
      some (if inValid .rectIn s then (if rectInReady s then .rectXfer else .rectStall) else .rectNone) :=
  decode_rectWord _ _

/-! ### Queues and logs -/

/-- The queue of an input port after a tick: its head has left if the port transfers. -/
def queueAfter (p : InPort) (s : State) : List Item := if inXfer p s then queueTaken p s else s.env.queues.get p

theorem queueAfter_of_not_xfer {p : InPort} {s : State} (h : ¬ inXfer p s = true) :
    s.env.queues.get p = queueAfter p s := (if_neg h).symm

theorem queueAfter_of_not_valid {p : InPort} {s : State} (h : ¬ inValid p s = true) :
    s.env.queues.get p = queueAfter p s :=
  queueAfter_of_not_xfer fun hx => h (Bool.and_eq_true_iff.mp hx).1

theorem queueAfter_of_not_ready {p : InPort} {s : State} (h : ¬ inReady p s = true) :
    s.env.queues.get p = queueAfter p s :=
  queueAfter_of_not_xfer fun hx => h (Bool.and_eq_true_iff.mp hx).2

theorem logAfter_of_not_valid {p : OutPort} {s : State} (h : ¬ outValid p s = true) :
    s.env.taken.get p = logAfter p s :=
  (if_neg fun hx => h (Bool.and_eq_true_iff.mp hx).1).symm

theorem logAfter_of_not_ready {p : OutPort} {s : State} (h : ¬ outReady p s = true) :
    s.env.taken.get p = logAfter p s :=
  (if_neg fun hx => h (Bool.and_eq_true_iff.mp hx).2).symm

theorem takeIn_queue (p : InPort) (s : State) : (takeIn p s).env.queues.get p = queueAfter p s := by
  simp [takeIn_spec, queueAfter]

theorem takeIn_log (p : InPort) (q : OutPort) (s : State) :
    (takeIn p s).env.taken.get q = s.env.taken.get q := by rw [takeIn_taken]

theorem deliver_log (p : OutPort) (s : State) : (deliver p s).env.taken.get p = logAfter p s := by
  simp [deliver_spec]

theorem deliver_queue (q : OutPort) (p : InPort) (s : State) :
    (deliver q s).env.queues.get p = s.env.queues.get p := by rw [deliver_queues]

/-- PEAK's loads and UIO's pass-through take an item on one port and give one on another. -/
theorem deliver_takeIn_queue (q : OutPort) (p : InPort) (s : State) :
    (deliver q (takeIn p s)).env.queues.get p = queueAfter p s := by rw [deliver_queues, takeIn_queue]

theorem deliver_takeIn_log (q : OutPort) (p : InPort) (s : State) :
    (deliver q (takeIn p s)).env.taken.get q = logAfter q s := by rw [deliver_log, logAfter_takeIn]

section Operations
variable {s t : State} {i : Instr}

/-! ### The queue of each input port -/

theorem rect_queue (hsel : selected .rect s = some i) (he : exec i s = .next t) :
    t.env.queues.get .rectIn = queueAfter .rectIn s := by
  rw [selected_rect] at hsel
  split_ifs at hsel with hvalid hready <;> cases hsel <;> obtain rfl := Host.Outcome.next.inj he
  · -- XFER
    exact takeIn_queue .rectIn s
  · -- STALL
    exact queueAfter_of_not_ready hready
  · -- NONE
    exact queueAfter_of_not_valid hvalid

theorem peak_queue (hsel : selected .peak s = some i) (he : exec i s = .next t) :
    t.env.queues.get .peakIn = queueAfter .peakIn s := by
  rw [selected_peak] at hsel
  split_ifs at hsel with haccept _ _ _ <;> cases hsel <;> obtain rfl := Host.Outcome.next.inj he
  · -- ATTACK
    exact deliver_takeIn_queue .peakOut .peakIn s
  · -- DECAY
    exact deliver_takeIn_queue .peakOut .peakIn s
  · -- HOLD
    exact deliver_takeIn_queue .peakOut .peakIn s
  · -- DRAIN
    exact (deliver_queue .peakOut .peakIn s).trans (queueAfter_of_not_xfer haccept)
  · -- KEEP
    exact queueAfter_of_not_xfer haccept

theorem bar_queue (hsel : selected .bar s = some i) (he : exec i s = .next t) :
    t.env.queues.get .barIn = queueAfter .barIn s := by
  rw [selected_bar] at hsel
  split_ifs at hsel with hidle hvalid _ _ <;> cases hsel <;> obtain rfl := Host.Outcome.next.inj he
  · -- ACCEPT
    exact takeIn_queue .barIn s
  · -- WAITIN
    exact queueAfter_of_not_valid hvalid
  · -- PRESENT
    exact queueAfter_of_not_ready (p := .barIn) (mt eq_of_beq hidle)
  · -- STALL
    exact queueAfter_of_not_ready (p := .barIn) (mt eq_of_beq hidle)

theorem key_queue (hsel : selected .key s = some i) (he : exec i s = .next t) :
    t.env.queues.get .keyIn = queueAfter .keyIn s := by
  have hbusy (hidle : ¬ s.key.state = keyIdle) : s.env.queues.get .keyIn = queueAfter .keyIn s :=
    queueAfter_of_not_ready (p := .keyIn) (mt eq_of_beq hidle)
  rw [selected_key] at hsel
  split_ifs at hsel with hidle hvalid _ _ _ _ <;> cases hsel <;> obtain rfl := Host.Outcome.next.inj he
  · -- ACCEPT
    exact takeIn_queue .keyIn s
  · -- WAITIN
    exact queueAfter_of_not_valid hvalid
  · -- DONE
    exact hbusy hidle
  · -- ISOLATE
    exact hbusy hidle
  · -- SEND
    exact (deliver_queue .keyOut .keyIn s).trans (hbusy hidle)
  · -- SENDWAIT
    exact hbusy hidle

theorem uik_queue (hsel : selected .uik s = some i) (he : exec i s = .next t) :
    t.env.queues.get .uiKeyIn = queueAfter .uiKeyIn s := by
  rw [selected_uik] at hsel
  split_ifs at hsel with haccept _ _ _ _ _ <;> cases hsel <;> obtain rfl := Host.Outcome.next.inj he
  · -- NONE
    have hno : uikAccept s = false := by simpa using haccept
    exact queueAfter_of_not_xfer (p := .uiKeyIn) (ne_true_of_eq_false hno)
  all_goals exact takeIn_queue .uiKeyIn s

theorem uio_queue (hsel : selected .uio s = some i) (he : exec i s = .next t) :
    t.env.queues.get .uiPtIn = queueAfter .uiPtIn s := by
  have hrender (h : uiRenderReq s = true) : s.env.queues.get .uiPtIn = queueAfter .uiPtIn s :=
    queueAfter_of_not_ready (p := .uiPtIn) (by simp [inReady, uiPtReady, h])
  rw [selected_uio] at hsel
  split_ifs at hsel with hreq _ _ hslot hvalid <;> cases hsel <;> obtain rfl := Host.Outcome.next.inj he
  · -- RLAST
    exact (deliver_queue .uiOut .uiPtIn s).trans (hrender hreq)
  · -- RSTEP
    exact (deliver_queue .uiOut .uiPtIn s).trans (hrender hreq)
  · -- RSTALL
    exact hrender hreq
  · -- PASS
    exact deliver_takeIn_queue .uiOut .uiPtIn s
  · -- DRAIN
    exact (deliver_queue .uiOut .uiPtIn s).trans (queueAfter_of_not_valid hvalid)
  · -- KEEP
    exact queueAfter_of_not_ready (p := .uiPtIn) (by simp [inReady, uiPtReady, hslot])

/-! ### The log of each output port -/

theorem boxAccept_env (he : execBoxAccept s = .next t) : t.env = s.env := by
  unfold execBoxAccept at he
  split at he <;> cases he
  rfl

theorem boxWrite_env (he : execBoxWrite s = .next t) : t.env = s.env := by
  unfold execBoxWrite at he
  split at he <;> cases he
  rfl

theorem box_log (hsel : selected .box s = some i) (he : exec i s = .next t) :
    t.env.taken.get .boxOut = logAfter .boxOut s := by
  have hbusy (hwait : s.box.state ≠ boxWait) (henv : t.env = s.env) :
      t.env.taken.get .boxOut = logAfter .boxOut s := by
    rw [henv]
    exact logAfter_of_not_valid (p := .boxOut) (mt eq_of_beq hwait)
  rw [selected_box] at hsel
  split_ifs at hsel with hidle _ hwrite haccum hemit _ hready <;> cases hsel
  · -- ACCEPT
    exact hbusy (hidle ▸ by decide) (boxAccept_env he)
  · -- WAITIN
    obtain rfl := Host.Outcome.next.inj he
    exact hbusy (hidle ▸ by decide) rfl
  · -- WRITE
    exact hbusy (hwrite ▸ by decide) (boxWrite_env he)
  · -- ACCUM
    obtain rfl := Host.Outcome.next.inj he
    exact hbusy (haccum ▸ by decide) rfl
  · -- EMIT
    obtain rfl := Host.Outcome.next.inj he
    exact hbusy (hemit ▸ by decide) rfl
  · -- DRAIN
    obtain rfl := Host.Outcome.next.inj he
    exact deliver_log .boxOut s
  · -- HOLD
    obtain rfl := Host.Outcome.next.inj he
    exact logAfter_of_not_ready hready

theorem peak_log (hsel : selected .peak s = some i) (he : exec i s = .next t) :
    t.env.taken.get .peakOut = logAfter .peakOut s := by
  rw [selected_peak] at hsel
  split_ifs at hsel with _ _ _ hready <;> cases hsel <;> obtain rfl := Host.Outcome.next.inj he
  · -- ATTACK
    exact deliver_takeIn_log .peakOut .peakIn s
  · -- DECAY
    exact deliver_takeIn_log .peakOut .peakIn s
  · -- HOLD
    exact deliver_takeIn_log .peakOut .peakIn s
  · -- DRAIN
    exact deliver_log .peakOut s
  · -- KEEP
    exact logAfter_of_not_ready hready

/-- MUL on a full slot takes a fault, so in a tick without one it has no offer to transfer (60_exceptions.md R373). -/
theorem qntMul_log (hf : t.fault = none) (he : execQntMul s = .next t) :
    t.env.taken.get .qntOut = logAfter .qntOut s := by
  unfold execQntMul at he
  split at he
  · obtain rfl := Host.Outcome.next.inj he
    exact absurd hf (Option.some_ne_none _)
  · next hempty =>
    obtain rfl := Host.Outcome.next.inj he
    exact logAfter_of_not_valid (p := .qntOut) hempty

theorem qnt_log (hf : t.fault = none) (hsel : selected .qnt s = some i) (he : exec i s = .next t) :
    t.env.taken.get .qntOut = logAfter .qntOut s := by
  rw [selected_qnt] at hsel
  split_ifs at hsel <;> cases hsel
  · -- MUL
    exact qntMul_log hf he
  all_goals
    obtain rfl := Host.Outcome.next.inj he
    exact deliver_log .qntOut s

theorem key_log (hsel : selected .key s = some i) (he : exec i s = .next t) :
    t.env.taken.get .keyOut = logAfter .keyOut s := by
  have hbusy (hsend : s.key.state ≠ keySend) : s.env.taken.get .keyOut = logAfter .keyOut s :=
    logAfter_of_not_valid (p := .keyOut) (mt eq_of_beq hsend)
  rw [selected_key] at hsel
  split_ifs at hsel with hidle _ hcalc _ _ hready <;> cases hsel <;> obtain rfl := Host.Outcome.next.inj he
  · -- ACCEPT
    exact (takeIn_log .keyIn .keyOut s).trans (hbusy (hidle ▸ by decide))
  · -- WAITIN
    exact hbusy (hidle ▸ by decide)
  · -- DONE
    exact hbusy (hcalc ▸ by decide)
  · -- ISOLATE
    exact hbusy (hcalc ▸ by decide)
  · -- SEND
    exact deliver_log .keyOut s
  · -- SENDWAIT
    exact logAfter_of_not_ready hready

theorem not_ready_of_not_slotFree {ov ready : Bool} (h : ¬ slotFree ov ready = true) : ¬ ready = true :=
  fun hr => h (by rw [slotFree, hr, Bool.or_true])

theorem uio_log (hsel : selected .uio s = some i) (he : exec i s = .next t) :
    t.env.taken.get .uiOut = logAfter .uiOut s := by
  rw [selected_uio] at hsel
  split_ifs at hsel with _ hslot _ hslot _ <;> cases hsel <;> obtain rfl := Host.Outcome.next.inj he
  · -- RLAST
    exact deliver_log .uiOut s
  · -- RSTEP
    exact deliver_log .uiOut s
  · -- RSTALL
    exact logAfter_of_not_ready (not_ready_of_not_slotFree hslot)
  · -- PASS
    exact deliver_takeIn_log .uiOut .uiPtIn s
  · -- DRAIN
    exact deliver_log .uiOut s
  · -- KEEP
    exact logAfter_of_not_ready (not_ready_of_not_slotFree hslot)

/-! ### Every port -/

/-- The owner of an input port takes an item exactly when the port transfers (20_memory.md R71, R78). -/
theorem exec_queue {p : InPort} (hsel : selected p.unit s = some i) (he : exec i s = .next t) :
    t.env.queues.get p = queueAfter p s := by
  cases p with
  | rectIn => exact rect_queue hsel he
  | peakIn => exact peak_queue hsel he
  | barIn => exact bar_queue hsel he
  | keyIn => exact key_queue hsel he
  | uiKeyIn => exact uik_queue hsel he
  | uiPtIn => exact uio_queue hsel he

/-- The owner of an output port gives its item exactly when the port transfers (20_memory.md R71, R78). -/
theorem exec_log {p : OutPort} (hf : t.fault = none) (hsel : selected p.unit s = some i) (he : exec i s = .next t) :
    t.env.taken.get p = logAfter p s := by
  cases p with
  | boxOut => exact box_log hsel he
  | peakOut => exact peak_log hsel he
  | qntOut => exact qnt_log hf hsel he
  | keyOut => exact key_log hsel he
  | uiOut => exact uio_log hsel he

end Operations

end Sys2Proof.Machine
end

section
/-! PROOF. The statements of 20_memory.md about the tick and the handshake. -/

namespace Sys2Proof.Machine

/-! ### The tick, from what the units executed -/

theorem unitState_of_exec {s t : State} {u : UnitId} {i : Instr} (hsel : selected u s = some i)
    (he : exec i s = .next t) : unitState s u = t := by
  simp [unitState, hsel, he]

theorem unitStop_of_exec {s t : State} {u : UnitId} {i : Instr} (hsel : selected u s = some i)
    (he : exec i s = .next t) (hf : t.fault = none) : unitStop s u = none := by
  simp [unitStop, hsel, he, hf]

/-- A tick whose only failure is a check of the committed registers records it and writes nothing else
(60_exceptions.md R373, R375). -/
theorem tick_of_failedAssertion {s : State} {f : FaultRecord} (hkeeps : envKeeps s = true)
    (hlegal : ∀ u, (selected u s).isSome) (hruns : ∀ u, unitStop s u = none)
    (hfails : failedAssertion (commit s (unitState s)) = some f) : tick s = .next (takeFault f s) := by
  have hports : InPort.all.find? (breaches s) = none :=
    List.find?_eq_none.mpr fun p _ => ne_true_of_eq_false ((envKeeps_iff s).mp hkeeps p)
  have hwords : UnitId.all.find? (fun u => (selected u s).isNone) = none :=
    List.find?_eq_none.mpr fun u _ => by simpa using Option.isSome_iff_ne_none.mp (hlegal u)
  have hunits : UnitId.all.findSome? (unitStop s) = none :=
    List.findSome?_eq_none_iff.mpr fun u _ => hruns u
  simp [tick, hports, hwords, hunits, hfails]

theorem step_of_not_halted {s : State} (h : s.fault = none) : step s = tick s := by
  rw [step, h]

/-! ### The statements -/

/-- Settles O46: the offer after the step is the one the port's owner left, and it left it alone. -/
theorem outputsAreHeldUntilTaken : Obligations.OutputsAreHeldUntilTaken := by
  intro s t hs h p hv hr
  obtain ⟨f, rfl⟩ | ⟨after, hrun, rfl⟩ := step_registers_cases h
  · cases p <;> exact ⟨hv, rfl⟩
  · obtain ⟨-, -, -, ⟨-, -, -, hslot⟩, -⟩ := hs
    obtain ⟨i, hsel, hexec⟩ := hrun p.unit
    obtain ⟨hcfg, hvalid, hitem⟩ := exec_keeps_untaken_offer hslot hv hr hsel hexec
    exact ⟨(outValid_endTick_commit s after p).trans hvalid, (outItem_endTick_commit hcfg).trans hitem⟩

/-- Settles O45: each port's queue or log is its owner's, and the owner moves an item exactly on a transfer. -/
theorem transfersFollowTheHandshake : Obligations.TransfersFollowTheHandshake := by
  intro s t h hfault
  obtain ⟨-, ⟨f, rfl⟩ | ⟨hclean, rfl⟩⟩ := step_next_cases h
  · exact absurd hfault (Option.some_ne_none f)
  · refine ⟨fun p => ?_, fun p => ?_⟩
    · obtain ⟨i, hsel, hexec, -⟩ := hclean.executed p.unit
      exact (commit_queue s (unitState s) p).trans (exec_queue hsel hexec)
    · obtain ⟨i, hsel, hexec, hnone⟩ := hclean.executed p.unit
      exact (commit_log s (unitState s) p).trans (exec_log hnone hsel hexec)

/-- Settles O44: each unit's own result enters the commit, and the tick is clean unless a check of it fails. -/
theorem stepRunsSelectedOperations : Obligations.StepRunsSelectedOperations := by
  intro s op after hfault hkeeps hsel hexec hnone
  obtain rfl : unitState s = after := funext fun u => unitState_of_exec (hsel u) (hexec u)
  have hlegal (u : UnitId) : (selected u s).isSome := by rw [hsel u]; rfl
  have hruns (u : UnitId) : unitStop s u = none := unitStop_of_exec (hsel u) (hexec u) (hnone u)
  rw [step_of_not_halted hfault]
  refine ⟨fun hchecks => ?_, fun f hfails => tick_of_failedAssertion hkeeps hlegal hruns hfails⟩
  have hclean : CleanTick s := ⟨(envKeeps_iff s).mp hkeeps, hlegal, hruns, hchecks⟩
  exact ⟨_, tick_of_clean hclean, rfl, hfault, rfl, rfl, rfl, rfl, rfl, rfl, rfl, rfl, rfl, rfl, rfl, rfl, rfl, rfl,
    rfl, rfl, rfl⟩

end Sys2Proof.Machine
end

section
/-! PROOF. The rows of opcode_table.json (30_encoding.md R110, R133): no word matches two of them, so the decoder reads
an operation from exactly the words its row matches. -/

namespace Sys2Proof

/-! ### The rows -/

theorem Instr.mem_all (i : Instr) : i ∈ Instr.all := by cases i <;> decide

theorem Instr.covers_iff (i : Instr) (w : Word) : i.covers w = true ↔ w &&& i.mask = i.pattern := beq_iff_eq

theorem Instr.pattern_and_mask (i : Instr) : i.pattern &&& i.mask = i.pattern := by cases i <;> decide

/-- Two rows that fix different values of a bit that both fix. -/
def Instr.conflicts (i j : Instr) : Prop := i.pattern &&& j.mask ≠ j.pattern &&& i.mask

theorem Instr.rows_conflict : Instr.all.Pairwise Instr.conflicts := by
  unfold Instr.conflicts
  decide

theorem Instr.conflicts_of_ne {i j : Instr} (h : i ≠ j) : i.conflicts j :=
  have : Std.Symm Instr.conflicts := ⟨fun _ _ => Ne.symm⟩
  Instr.rows_conflict.forall i.mem_all j.mem_all h

/-- R110: no word matches two rows. -/
theorem Instr.eq_of_covers {i j : Instr} {w : Word} (hi : i.covers w = true) (hj : j.covers w = true) : i = j := by
  by_contra hne
  refine Instr.conflicts_of_ne hne ?_
  calc i.pattern &&& j.mask
      = w &&& i.mask &&& j.mask := by rw [(i.covers_iff w).mp hi]
    _ = w &&& j.mask &&& i.mask := by rw [BitVec.and_assoc, BitVec.and_comm i.mask, BitVec.and_assoc]
    _ = j.pattern &&& i.mask := by rw [(j.covers_iff w).mp hj]

theorem covers_of_decode {w : Word} {i : Instr} (h : decode w = some i) : i.covers w = true :=
  List.find?_some (p := fun j : Instr => j.covers w) h

/-- R136: the decoder reads the one operation whose row the word matches. -/
theorem decode_eq_some_iff (w : Word) (i : Instr) : decode w = some i ↔ i.covers w = true := by
  refine ⟨covers_of_decode, fun hi => ?_⟩
  obtain ⟨j, hj⟩ : ∃ j, decode w = some j :=
    Option.isSome_iff_exists.mp (List.find?_isSome.mpr ⟨i, i.mem_all, hi⟩)
  rw [hj, Instr.eq_of_covers (covers_of_decode hj) hi]

/-- A word matches a row exactly when it is the row's fixed bits with some value of its free ones. -/
theorem Instr.covers_iff_exists_free (i : Instr) (w : Word) :
    i.covers w = true ↔ ∃ free : Word, w = encode i ||| (free &&& ~~~ i.mask) := by
  rw [Instr.covers_iff]
  constructor
  · intro h
    refine ⟨w, ?_⟩
    rw [encode, ← h, ← BitVec.and_or_distrib_left, BitVec.or_not_self, BitVec.and_allOnes]
  · rintro ⟨free, rfl⟩
    rw [encode, BitVec.and_or_distrib_right, BitVec.and_assoc, BitVec.not_and_self, i.pattern_and_mask]
    simp

/-! ### The unit field -/

theorem UnitId.code_injective : Function.Injective UnitId.code := by
  intro u v
  cases u <;> cases v <;> decide

theorem unitField_mkSel (unit st : BitVec 4) (c0 c1 c2 c3 : Bool) : (mkSel unit st c0 c1 c2 c3).unitField = unit := by
  unfold mkSel Word.unitField
  rw [BitVec.extractLsb'_append_eq_of_le (by decide)]
  exact BitVec.extractLsb'_append_eq_left

/-- Every row fixes the whole unit field (30_encoding.md R111). -/
theorem Instr.unitField_mask (i : Instr) : i.mask.unitField = BitVec.allOnes 4 := by cases i <;> rfl

theorem Instr.unitField_pattern (i : Instr) : i.pattern.unitField = i.unit.code := by cases i <;> rfl

/-- A word selects an operation of the unit that its unit field names (30_encoding.md R111, R136). -/
theorem code_unit_of_decode {w : Word} {i : Instr} (h : decode w = some i) : i.unit.code = w.unitField :=
  calc i.unit.code
      = i.pattern.unitField := i.unitField_pattern.symm
    _ = (w &&& i.mask).unitField := by rw [(i.covers_iff w).mp (covers_of_decode h)]
    _ = w.unitField &&& i.mask.unitField := BitVec.extractLsb'_and
    _ = w.unitField := by rw [i.unitField_mask, BitVec.and_allOnes]

/-! ### The statements -/

/-- Settles O1: the row's match condition is the decoder's, since no word matches two rows. -/
theorem decodeIsTheMatchingRow : Obligations.DecodeIsTheMatchingRow := fun w i =>
  (decode_eq_some_iff w i).trans (i.covers_iff w)

/-- Settles O2: the words an operation is read from are those its row matches, and those are its encoding with any free
bits. -/
theorem decodeInvertsEncode : Obligations.DecodeInvertsEncode := fun i _ w =>
  (decode_eq_some_iff w i).trans (i.covers_iff_exists_free w)

/-- Settles O3: the words are closed, and the decoder is evaluated on each. -/
theorem decodeReadsTheSpecsWords : Obligations.DecodeReadsTheSpecsWords := by
  unfold Obligations.DecodeReadsTheSpecsWords
  decide

end Sys2Proof
end

section
/-! PROOF. What an input port carries while its `valid` is 0 (93_implementation_defined.md I5): no handshake signal
depends on it, a unit that reads a payload runs an operation its port's `valid` selects, and so a tick commutes with a
change of the idle payloads. -/

namespace Sys2Proof.Machine

/-! ### The offers of the coming tick -/

/-- Without a raw trace an input port presents the head of its queue (30_encoding.md R137). -/
theorem offer_of_scripted {s : State} (h : s.env.trace = []) (p : InPort) :
    (rawInputs s).offers.get p = queueOffer (s.env.idle.get p) (s.env.queues.get p) := by
  unfold rawInputs
  rw [h]
  cases p <;> rfl

theorem queueOffer_valid_idle (a b : Item) (q : List Item) : (queueOffer a q).valid = (queueOffer b q).valid := by
  cases q <;> rfl

theorem queueOffer_of_valid {a : Item} (b : Item) {q : List Item} (h : (queueOffer a q).valid = true) :
    queueOffer b q = queueOffer a q := by
  cases q with
  | nil => exact absurd h Bool.false_ne_true
  | cons => rfl

section Idle
variable (x : InPorts Item) (s : State)

theorem rawInputs_withIdle_of_raw {s : State} (h : s.env.trace ≠ []) : rawInputs (withIdle x s) = rawInputs s := by
  obtain ⟨e, l, htrace⟩ := List.exists_cons_of_ne_nil h
  simp [rawInputs, withIdle, htrace]

@[simp] theorem inValid_withIdle (p : InPort) : inValid p (withIdle x s) = inValid p s := by
  unfold inValid
  by_cases htrace : s.env.trace = []
  · rw [offer_of_scripted htrace, offer_of_scripted (s := withIdle x s) htrace]
    exact queueOffer_valid_idle _ _ _
  · rw [rawInputs_withIdle_of_raw x htrace]

/-- The item of a valid offer is not the idle one. -/
theorem inItem_withIdle {p : InPort} {s : State} (h : inValid p s = true) :
    inItem p (withIdle x s) = inItem p s := by
  have hoffer : (rawInputs (withIdle x s)).offers.get p = (rawInputs s).offers.get p := by
    by_cases htrace : s.env.trace = []
    · rw [inValid, offer_of_scripted htrace] at h
      rw [offer_of_scripted htrace, offer_of_scripted (s := withIdle x s) htrace]
      exact queueOffer_of_valid _ h
    · rw [rawInputs_withIdle_of_raw x htrace]
  unfold inItem
  rw [hoffer]
  rfl

@[simp] theorem outReady_withIdle (p : OutPort) : outReady p (withIdle x s) = outReady p s := by
  unfold outReady
  by_cases htrace : s.env.trace = []
  · simp only [rawInputs, withIdle, State.setEnv_env, htrace]
    rfl
  · rw [rawInputs_withIdle_of_raw x htrace]

/-! ### The handshake -/

@[simp] theorem peakSlotFree_withIdle : peakSlotFree (withIdle x s) = peakSlotFree s :=
  congrArg (slotFree s.peak.ov) (outReady_withIdle x s .peakOut)

@[simp] theorem qntSlotFree_withIdle : qntSlotFree (withIdle x s) = qntSlotFree s :=
  congrArg (slotFree s.qnt.ov) (outReady_withIdle x s .qntOut)

@[simp] theorem uiSlotFree_withIdle : uiSlotFree (withIdle x s) = uiSlotFree s :=
  congrArg (slotFree s.ui.ov) (outReady_withIdle x s .uiOut)

@[simp] theorem qntInReady_withIdle : qntInReady (withIdle x s) = qntInReady s :=
  congrArg (s.qnt.state == qntIdle && ·) (qntSlotFree_withIdle x s)

@[simp] theorem inReady_withIdle (p : InPort) : inReady p (withIdle x s) = inReady p s := by
  cases p with
  | rectIn | barIn | keyIn | uiKeyIn => rfl
  | peakIn => exact peakSlotFree_withIdle x s
  | uiPtIn => exact congrArg (· && !uiRenderReq s) (uiSlotFree_withIdle x s)

@[simp] theorem inXfer_withIdle (p : InPort) : inXfer p (withIdle x s) = inXfer p s := by simp [inXfer]

@[simp] theorem outValid_withIdle (p : OutPort) : outValid p (withIdle x s) = outValid p s := by cases p <;> rfl

@[simp] theorem outItem_withIdle (p : OutPort) : outItem p (withIdle x s) = outItem p s := by cases p <;> rfl

@[simp] theorem outXfer_withIdle (p : OutPort) : outXfer p (withIdle x s) = outXfer p s := by simp [outXfer]

theorem takeIn_withIdle (p : InPort) : takeIn p (withIdle x s) = withIdle x (takeIn p s) := by
  rw [takeIn_spec, takeIn_spec, inXfer_withIdle]
  rfl

theorem deliver_withIdle (p : OutPort) : deliver p (withIdle x s) = withIdle x (deliver p s) := by
  rw [deliver_spec, deliver_spec, logAfter, outXfer_withIdle, logGiven, outItem_withIdle]
  rfl

/-! ### The operation selected -/

theorem peakAccept_withIdle : peakAccept (withIdle x s) = peakAccept s :=
  congrArg₂ (· && ·) (inValid_withIdle x s .peakIn) (inReady_withIdle x s .peakIn)

theorem uikAccept_withIdle : uikAccept (withIdle x s) = uikAccept s :=
  congrArg₂ (· && ·) (inValid_withIdle x s .uiKeyIn) (inReady_withIdle x s .uiKeyIn)

theorem inValid_of_peakAccept {s : State} (h : peakAccept s = true) : inValid .peakIn s = true :=
  (Bool.and_eq_true_iff.mp h).1

theorem inValid_of_uikAccept {s : State} (h : uikAccept s = true) : inValid .uiKeyIn s = true :=
  (Bool.and_eq_true_iff.mp h).1

theorem peakX_withIdle {s : State} (h : inValid .peakIn s = true) : peakX (withIdle x s) = peakX s :=
  congrArg Item.payload (inItem_withIdle x h)

theorem uiSnap_withIdle {s : State} (h : inValid .uiKeyIn s = true) : uiSnap (withIdle x s) = uiSnap s :=
  congrArg Item.payload (inItem_withIdle x h)

theorem uiOn_withIdle {s : State} (h : inValid .uiKeyIn s = true) : uiOn (withIdle x s) = uiOn s :=
  congrArg (· &&& complement s.cfg.KU s.ui.prevKeys) (uiSnap_withIdle x h)

/-- The words of PEAK and UIK have bits of a payload, whether it is offered or not; no other unit's word has. -/
theorem selector_withIdle {u : UnitId} (hpeak : u ≠ .peak) (huik : u ≠ .uik) :
    selector u (withIdle x s) = selector u s := by
  cases u with
  | peak => exact absurd rfl hpeak
  | uik => exact absurd rfl huik
  | rect => simp only [selector, inValid_withIdle]; rfl
  | box => simp only [selector, boxInValid, inValid_withIdle, outReady_withIdle]; rfl
  | qnt => simp only [selector, qntAccept, qntInReady_withIdle]; rfl
  | bar => simp only [selector, inValid_withIdle, barQReady, qntInReady_withIdle]; rfl
  | key => simp only [selector, inValid_withIdle, outReady_withIdle]; rfl
  | uio => simp only [selector, inValid_withIdle, outReady_withIdle, uiSlotFree_withIdle]; rfl

theorem selected_peak_withIdle : selected .peak (withIdle x s) = selected .peak s := by
  rw [selected_peak, selected_peak, peakAccept_withIdle, outReady_withIdle]
  cases haccept : peakAccept s with
  | false => rfl
  | true =>
    have hattacks : peakAttacks (withIdle x s) = peakAttacks s := by
      rw [peakAttacks, peakX_withIdle x (inValid_of_peakAccept haccept)]
      rfl
    rw [hattacks]
    rfl

theorem selected_uik_withIdle : selected .uik (withIdle x s) = selected .uik s := by
  rw [selected_uik, selected_uik, uikAccept_withIdle]
  cases haccept : uikAccept s with
  | false => rfl
  | true =>
    rw [uiOn_withIdle x (inValid_of_uikAccept haccept), uiSnap_withIdle x (inValid_of_uikAccept haccept)]
    rfl

@[simp] theorem selected_withIdle (u : UnitId) : selected u (withIdle x s) = selected u s := by
  by_cases hpeak : u = .peak
  · exact hpeak ▸ selected_peak_withIdle x s
  by_cases huik : u = .uik
  · exact huik ▸ selected_uik_withIdle x s
  exact congrArg decode (selector_withIdle x s hpeak huik)

/-! ### The operation executed -/

/-- What an operation answers, the idle payloads replaced in the next state. -/
def answerWithIdle (x : InPorts Item) : Result → Result
  | .next t => .next (withIdle x t)
  | .fault r => .fault r
  | .refused r => .refused r

@[simp] theorem peakLoad_withIdle (y peak count : Nat) :
    peakLoad (withIdle x s) y peak count = withIdle x (peakLoad s y peak count) := by
  rw [peakLoad, takeIn_withIdle, deliver_withIdle]
  rfl

@[simp] theorem qntLoad_withIdle (v : Nat) : qntLoad (withIdle x s) v = withIdle x (qntLoad s v) := by
  rw [qntLoad, deliver_withIdle]
  rfl

theorem boxInX_withIdle {s : State} (h : inValid .rectIn s = true) : boxInX (withIdle x s) = boxInX s := by
  unfold boxInX boxInItem rectL rectR
  rw [inItem_withIdle x h]
  rfl

end Idle

/-- The input port whose payload an operation reads. RECT.XFER reads none: the pair it takes is read by BOX.ACCEPT. -/
def payloadPort : Instr → Option InPort
  | .boxAccept => some .rectIn
  | .peakAttack => some .peakIn
  | .barAccept => some .barIn
  | .keyAccept => some .keyIn
  | .uikEnter | .uikIgnore0 | .uikCommit | .uikStepUp | .uikStepDown | .uikIgnore1 => some .uiKeyIn
  | .uioPass => some .uiPtIn
  | _ => none

/-- An operation that reads a payload is selected only while it is offered. -/
theorem inValid_of_selected {s : State} {u : UnitId} {i : Instr} {p : InPort} (hsel : selected u s = some i)
    (hp : payloadPort i = some p) : inValid p s = true := by
  cases u with
  | rect => rw [selected_rect] at hsel; split_ifs at hsel <;> cases hsel <;> cases hp
  | box =>
    rw [selected_box] at hsel
    split_ifs at hsel with _ hvalid <;> cases hsel <;> cases hp
    exact hvalid
  | peak =>
    rw [selected_peak] at hsel
    split_ifs at hsel with haccept <;> cases hsel <;> cases hp
    exact inValid_of_peakAccept haccept
  | qnt => rw [selected_qnt] at hsel; split_ifs at hsel <;> cases hsel <;> cases hp
  | bar =>
    rw [selected_bar] at hsel
    split_ifs at hsel with _ hvalid <;> cases hsel <;> cases hp
    exact hvalid
  | key =>
    rw [selected_key] at hsel
    split_ifs at hsel with _ hvalid <;> cases hsel <;> cases hp
    exact hvalid
  | uik =>
    rw [selected_uik] at hsel
    split_ifs at hsel with haccept <;> cases hsel <;> cases hp
    all_goals exact inValid_of_uikAccept (by simpa using haccept)
  | uio =>
    rw [selected_uio] at hsel
    split_ifs at hsel with _ _ _ _ hvalid <;> cases hsel <;> cases hp
    exact hvalid

/-- An operation whose payload is offered does the same for every value of the idle payloads. -/
theorem exec_withIdle (x : InPorts Item) {s : State} {i : Instr}
    (hvalid : ∀ p, payloadPort i = some p → inValid p s = true) :
    exec i (withIdle x s) = answerWithIdle x (exec i s) := by
  cases i
  case rectStall | rectNone | boxWaitin | boxAccum | boxEmit | boxHold | peakKeep | barPresent | barStall | barWaitin |
      keyWaitin | keyDone | keyIsolate | keySendwait | uikNone | uioRstall | uioKeep => rfl
  case rectXfer => exact congrArg Host.Outcome.next (takeIn_withIdle x s .rectIn)
  case boxAccept =>
    show execBoxAccept (withIdle x s) = answerWithIdle x (execBoxAccept s)
    have hread : memRead (withIdle x s) (withIdle x s).box.addr = memRead s s.box.addr := rfl
    rw [execBoxAccept, execBoxAccept, boxInX_withIdle x (hvalid .rectIn rfl), hread]
    cases memRead s s.box.addr <;> rfl
  case boxWrite =>
    show execBoxWrite (withIdle x s) = answerWithIdle x (execBoxWrite s)
    have hwrite : memWrite (withIdle x s) (withIdle x s).box.addr (withIdle x s).box.newSample =
      memWrite s s.box.addr s.box.newSample := rfl
    rw [execBoxWrite, execBoxWrite, hwrite]
    cases memWrite s s.box.addr s.box.newSample <;> rfl
  case qntMul =>
    show execQntMul (withIdle x s) = answerWithIdle x (execQntMul s)
    have hov : (withIdle x s).qnt.ov = s.qnt.ov := rfl
    rw [execQntMul, execQntMul, hov]
    cases s.qnt.ov <;> rfl
  case boxDrain | peakDrain | qntDefer | keySend | uioRstep | uioRlast | uioDrain =>
    refine congrArg Host.Outcome.next ?_
    rw [deliver_withIdle]
    rfl
  case qntNoacc =>
    refine congrArg Host.Outcome.next ?_
    rw [deliver_withIdle, outReady_withIdle]
    rfl
  case peakHold | peakDecay => exact congrArg Host.Outcome.next (peakLoad_withIdle x s _ _ _)
  case peakAttack =>
    refine congrArg Host.Outcome.next ?_
    rw [peakX_withIdle x (hvalid .peakIn rfl)]
    exact peakLoad_withIdle x s _ _ _
  case qntSathi | qntSatlo | qntHalf => exact congrArg Host.Outcome.next (qntLoad_withIdle x s _)
  case barAccept =>
    refine congrArg Host.Outcome.next ?_
    rw [takeIn_withIdle, barInData, inItem_withIdle x (hvalid .barIn rfl)]
    rfl
  case keyAccept =>
    refine congrArg Host.Outcome.next ?_
    rw [takeIn_withIdle, keySnap, inItem_withIdle x (hvalid .keyIn rfl)]
    rfl
  case uikEnter | uikIgnore0 | uikCommit | uikStepUp | uikStepDown | uikIgnore1 =>
    refine congrArg Host.Outcome.next ?_
    rw [takeIn_withIdle, uiSnap_withIdle x (hvalid .uiKeyIn rfl)]
    rfl
  case uioPass =>
    refine congrArg Host.Outcome.next ?_
    rw [takeIn_withIdle, deliver_withIdle, ptFrame, inItem_withIdle x (hvalid .uiPtIn rfl)]
    rfl

/-! ### One tick -/

section Tick
variable (x : InPorts Item) (s : State)

theorem breaches_withIdle (p : InPort) : breaches (withIdle x s) p = breaches s p := by
  unfold breaches
  rw [inValid_withIdle]
  cases hvalid : inValid p s with
  | false => rfl
  | true => rw [inItem_withIdle x hvalid]; rfl

theorem nextMonitor_withIdle (p : InPort) : nextMonitor (withIdle x s) p = nextMonitor s p := by
  unfold nextMonitor
  rw [inValid_withIdle, inReady_withIdle]
  cases hvalid : inValid p s with
  | false => rfl
  | true => rw [inItem_withIdle x hvalid]; rfl

theorem exec_selected_withIdle {s : State} {u : UnitId} {i : Instr} (hsel : selected u s = some i) :
    exec i (withIdle x s) = answerWithIdle x (exec i s) :=
  exec_withIdle x fun _ hp => inValid_of_selected hsel hp

theorem unitState_withIdle (u : UnitId) : unitState (withIdle x s) u = withIdle x (unitState s u) := by
  unfold unitState
  rw [selected_withIdle]
  cases hsel : selected u s with
  | none => rfl
  | some i =>
    simp only [exec_selected_withIdle x hsel]
    cases exec i s <;> rfl

theorem unitStop_withIdle (u : UnitId) : unitStop (withIdle x s) u = (unitStop s u).map (answerWithIdle x) := by
  unfold unitStop
  rw [selected_withIdle]
  cases hsel : selected u s with
  | none => rfl
  | some i =>
    simp only [exec_selected_withIdle x hsel]
    cases exec i s with
    | next t =>
      have htaken : (withIdle x t).fault.map (fun f => .next (takeFault f (withIdle x s))) =
          (t.fault.map fun f => .next (takeFault f s)).map (answerWithIdle x) := by
        rw [Option.map_map]
        rfl
      exact htaken
    | fault | refused => rfl

/-- An illegal word has no bit of a payload (30_encoding.md R133). -/
theorem selector_withIdle_of_illegal {s : State} {u : UnitId} (h : selected u s = none) :
    selector u (withIdle x s) = selector u s := by
  refine selector_withIdle x s ?_ ?_ <;> rintro rfl
  · rw [selected_peak] at h
    cases h
  · rw [selected_uik] at h
    cases h

theorem commit_withIdle :
    commit (withIdle x s) (unitState (withIdle x s)) = withIdle x (commit s (unitState s)) := by
  rw [funext (unitState_withIdle x s)]
  rfl

theorem endTick_withIdle (t : State) : endTick (withIdle x s) (withIdle x t) = withIdle x (endTick s t) := by
  simp only [endTick, nextMonitor_withIdle]
  rfl

/-- A tick with other idle payloads answers the same, up to the idle payloads. -/
theorem tick_withIdle : tick (withIdle x s) = answerWithIdle x (tick s) := by
  unfold tick
  rw [funext (breaches_withIdle x s)]
  cases InPort.all.find? (breaches s) with
  | some p => rfl
  | none =>
  simp only [selected_withIdle]
  cases hillegal : UnitId.all.find? (fun u => (selected u s).isNone) with
  | some u =>
    have hnone : selected u s = none := by simpa using List.find?_some hillegal
    simp only [selector_withIdle_of_illegal x hnone]
    rfl
  | none =>
  have hstops : UnitId.all.findSome? (unitStop (withIdle x s)) =
      (UnitId.all.findSome? (unitStop s)).map (answerWithIdle x) := by
    rw [funext (unitStop_withIdle x s), List.map_findSome?]
    rfl
  rw [hstops, commit_withIdle, endTick_withIdle]
  cases UnitId.all.findSome? (unitStop s) with
  | some r => rfl
  | none =>
  have hchecks : failedAssertion (withIdle x (commit s (unitState s))) = failedAssertion (commit s (unitState s)) := rfl
  simp only [hchecks, Option.map_none]
  cases failedAssertion (commit s (unitState s)) <;> rfl

theorem step_withIdle : step (withIdle x s) = answerWithIdle x (step s) := by
  have hfault : (withIdle x s).fault = s.fault := rfl
  rw [step, step, hfault]
  cases s.fault with
  | some f => rfl
  | none => exact tick_withIdle x s

end Tick

/-! ### The statement -/

/-- Settles O49: a step commutes with replacing the idle payloads, whatever it answers. -/
theorem idlePayloadsAreNeverRead : Obligations.IdlePayloadsAreNeverRead := by
  intro s x _
  rw [step_withIdle x s]
  cases step s <;> rfl

end Sys2Proof.Machine
end

section
/-! PROOF. The statements of 30_encoding.md R112-R119 about the operation each unit selects. The word is the one
Machine/Selector.lean forms; for the operations, the function that says what the unit selects is followed through its
conditions, and in each branch the operations' conditions are compared with the branch's own. -/

namespace Sys2Proof.Machine

/-! ### The condition signals -/

theorem boxInValid_eq (s : State) : boxInValid s = inValid .rectIn s := rfl

theorem rectInReady_iff (s : State) : rectInReady s = true ↔ s.box.state = boxIdle := beq_iff_eq

theorem peakAttacks_iff (s : State) : peakAttacks s = true ↔ peakInt s < peakX s := decide_eq_true_iff

theorem peakCntLast_iff (s : State) : peakCntLast s = true ↔ s.peak.count = s.cfg.n - 1 := beq_iff_eq

theorem qntGeHi_iff (s : State) : qntGeHi s = true ↔ (barQ s).hi ≤ (barQ s).data := decide_eq_true_iff

theorem qntLeLo_iff (s : State) : qntLeLo s = true ↔ (barQ s).data ≤ (barQ s).lo := decide_eq_true_iff

theorem qntMulZero_iff (s : State) : qntMulZero s = true ↔ (barQ s).mul = 0 := beq_iff_eq

theorem uiLedLast_iff (s : State) : uiLedLast s = true ↔ s.ui.led = s.cfg.leds - 1 := beq_iff_eq

/-! ### The state fields -/

theorem boxWait_lt_iff : ∀ st : BitVec 3, boxWait < st ↔
    st ≠ boxIdle ∧ st ≠ boxWrite ∧ st ≠ boxAccum ∧ st ≠ boxEmit ∧ st ≠ boxWait := by decide

theorem keyUnused_iff : ∀ st : BitVec 2, st = 3 ↔ st ≠ keyIdle ∧ st ≠ keyCalc ∧ st ≠ keySend := by decide

theorem setWidth_ofBool : ∀ b : Bool, (BitVec.ofBool b).setWidth 4 = if b then 1 else 0 := by decide

theorem barSt_of_le {s : State} (h : s.bar.idx ≤ s.cfg.N) : barSt s = if s.bar.idx = s.cfg.N then 1 else 0 := by
  unfold barSt
  split_ifs with hidle hbusy
  · rfl
  · rfl
  · omega

/-! ### The statements -/

/-- Settles O5: the three branches of RECT's selection, on `rect_in.valid` and BOX's state. -/
theorem rectSelection : Obligations.RectSelection := by
  intro s
  refine ⟨rfl, ?_⟩
  rw [selected_rect]
  simp only [rectInReady_iff]
  split_ifs with hvalid hidle
  · -- XFER
    simp [hvalid, hidle]
  · -- STALL
    simpa [hvalid] using hidle
  · -- NONE
    simp [hvalid]

/-- Settles O6: the branches follow BOX's state code, and what is left are the codes above `WAIT`. -/
theorem boxSelection : Obligations.BoxSelection := by
  intro s
  refine ⟨rfl, ?_⟩
  rw [selected_box, boxInValid_eq]
  split_ifs with hidle hvalid hwrite haccum hemit hwait hready
  · -- ACCEPT
    simp [hidle, hvalid]
  · -- WAITIN
    simp [hidle, hvalid]
  · -- WRITE
    simp [hwrite]
  · -- ACCUM
    simp [haccum]
  · -- EMIT
    simp [hemit]
  · -- DRAIN
    simp [hwait, hready]
  · -- HOLD
    simp [hwait, hready]
  · -- an unused code
    simp only [boxWait_lt_iff, hidle, hwrite, haccum, hemit, hwait, ne_eq, not_false_eq_true, false_and, and_self]

/-- Settles O7: attack comes before decay, and only on an accepted sample. -/
theorem peakSelection : Obligations.PeakSelection := by
  intro s
  refine ⟨rfl, ?_⟩
  rw [selected_peak]
  simp only [peakAttacks_iff, peakCntLast_iff]
  split_ifs with haccept hattack hlast hready
  · -- ATTACK
    simp [haccept, hattack]
  · -- DECAY
    simp [haccept, not_lt.mp hattack, hlast]
  · -- HOLD
    simp [haccept, not_lt.mp hattack, hlast]
  · -- DRAIN
    simp [haccept, hready]
  · -- KEEP
    simp [haccept, hready]

/-- Settles O8: `MUL` first, then the order `ge_hi`, `le_lo`, `mul_zero` of an accepted item. -/
theorem qntSelection : Obligations.QntSelection := by
  intro s
  refine ⟨rfl, ?_⟩
  rw [selected_qnt]
  simp only [qntGeHi_iff, qntLeLo_iff, qntMulZero_iff]
  split_ifs with hmul haccept hhi hlo hzero
  · -- MUL
    simp [hmul]
  · -- SATHI
    simp [qntIdle_of_ne_mul _ hmul, haccept, hhi]
  · -- SATLO
    simp [qntIdle_of_ne_mul _ hmul, haccept, not_le.mp hhi, hlo]
  · -- HALF
    simp [qntIdle_of_ne_mul _ hmul, haccept, not_le.mp hhi, not_le.mp hlo, hzero]
  · -- DEFER
    simp [qntIdle_of_ne_mul _ hmul, haccept, not_le.mp hhi, not_le.mp hlo, hzero]
  · -- NOACC
    simp [qntIdle_of_ne_mul _ hmul, haccept]

/-- Settles O9: idle, busy, or an index above `N`, where no row has the word's state field. -/
theorem barSelection : Obligations.BarSelection := by
  intro s
  refine ⟨fun hle => ?_, ?_⟩
  · rw [selector, barSt_of_le hle]
    rfl
  rw [selected_bar]
  simp only [barQReady]
  split_ifs with hidle hvalid hbusy hready
  · -- ACCEPT
    simp [hidle, hvalid]
  · -- WAITIN
    simp [hidle, hvalid]
  · -- PRESENT
    simp [hidle, hbusy, hbusy.le, hready]
  · -- STALL
    simp [hidle, hbusy, hbusy.le, hready]
  · -- above N
    have habove : s.cfg.N < s.bar.idx := by omega
    simp [hidle, hbusy, habove]

/-- Settles O10: the branches follow KEY's state code, and what is left is code 3. -/
theorem keySelection : Obligations.KeySelection := by
  intro s
  refine ⟨rfl, ?_⟩
  rw [selected_key]
  simp only [beq_iff_eq]
  split_ifs with hidle hvalid hcalc hdiff hsend hready
  · -- ACCEPT
    simp [hidle, hvalid]
  · -- WAITIN
    simp [hidle, hvalid]
  · -- DONE
    simp [hcalc, hdiff]
  · -- ISOLATE
    simp [hcalc, hdiff]
  · -- SEND
    simp [hsend, hready]
  · -- SENDWAIT
    simp [hsend, hready]
  · -- the unused code
    simp only [keyUnused_iff, hidle, hcalc, hsend, ne_eq, not_false_eq_true, false_and, and_self]

/-- Settles O11: an accepted snapshot first, then the edit mode, then SW before A before B. -/
theorem uikSelection : Obligations.UikSelection := by
  intro s
  refine ⟨?_, ?_⟩
  · rw [selector, setWidth_ofBool]
    rfl
  rw [selected_uik]
  simp only [Bool.not_eq_true']
  split_ifs with haccept hmode hsw hsw ha hb
  · -- NONE
    simp [haccept]
  · -- ENTER
    simp [haccept, hmode, hsw]
  · -- IGNORE0
    simp [haccept, hmode, hsw]
  · -- COMMIT
    simp [haccept, hmode, hsw]
  · -- IGNORE1
    simp [haccept, hmode, hsw, ha]
  · -- STEP_UP
    simp [haccept, hmode, hsw, ha, hb]
  · -- STEP_DOWN
    simp [haccept, hmode, hsw, ha, hb]

/-- Settles O12: a render request first, then the output slot. -/
theorem uioSelection : Obligations.UioSelection := by
  intro s
  refine ⟨?_, ?_⟩
  · rw [selector, setWidth_ofBool]
    rfl
  rw [selected_uio]
  simp only [uiLedLast_iff]
  split_ifs with hreq hslot hlast hslot hvalid
  · -- RLAST
    simp [hreq, hslot, hlast]
  · -- RSTEP
    simp [hreq, hslot, hlast]
  · -- RSTALL
    simp [hreq, hslot]
  · -- PASS
    simp [hreq, hslot, hvalid]
  · -- DRAIN
    simp [hreq, hslot, hvalid]
  · -- KEEP
    simp [hreq, hslot]

end Sys2Proof.Machine
end

section
/-! PROOF. The statements of 30_encoding.md about every unit and every port: the operation selected is the unit's own
(R133, R136), and a stimulus script keeps the producer obligation (R137). -/

namespace Sys2Proof.Machine

/-! ### Legal selectors -/

/-- BOX, BAR and KEY alone can form a word of no row, and the invariant keeps their registers off the unused codes. -/
theorem selected_ne_none_of_inv {s : State} (h : Inv s) (u : UnitId) : selected u s ≠ none := by
  obtain ⟨-, ⟨hbox, -⟩, -, -, ⟨hbar, -⟩, ⟨hkey, -⟩, -⟩ := h
  cases u with
  | rect => rw [selected_rect]; exact Option.some_ne_none _
  | box =>
    obtain ⟨-, -, -, -, -, -, -, -, hnone⟩ := boxSelection s
    exact mt hnone.mp (BitVec.not_lt.mpr hbox)
  | peak => rw [selected_peak]; exact Option.some_ne_none _
  | qnt => rw [selected_qnt]; exact Option.some_ne_none _
  | bar =>
    obtain ⟨-, -, -, -, -, hnone⟩ := barSelection s
    exact mt hnone.mp (not_lt.mpr hbar)
  | key =>
    obtain ⟨-, -, -, -, -, -, -, hnone⟩ := keySelection s
    exact mt hnone.mp fun hunused => absurd (hunused ▸ hkey) (by decide)
  | uik => rw [selected_uik]; exact Option.some_ne_none _
  | uio => rw [selected_uio]; exact Option.some_ne_none _

theorem unitField_selector (u : UnitId) (s : State) : (selector u s).unitField = u.code := by
  cases u <;> exact unitField_mkSel _ _ _ _ _ _

/-- Settles O4: in a good state the unit's word is legal, and its unit field names the unit. -/
theorem goodStatesSelectLegalOperations : Obligations.GoodStatesSelectLegalOperations := by
  intro s hs u
  obtain ⟨i, hi⟩ := Option.ne_none_iff_exists'.mp (selected_ne_none_of_inv hs u)
  have hcode : i.unit.code = u.code := (code_unit_of_decode hi).trans (unitField_selector u s)
  exact ⟨i, hi, UnitId.code_injective hcode⟩

/-! ### Scripted offers -/

/-- Each pending monitor holds the offer of the coming tick. -/
def MonitorsMatchOffers (s : State) : Prop :=
  ∀ p, (s.mon.get p).pending = true → inValid p s = true ∧ (s.mon.get p).item = inItem p s

theorem envKeeps_of_monitorsMatchOffers {s : State} (h : MonitorsMatchOffers s) : envKeeps s = true := by
  rw [envKeeps_iff]
  intro p
  unfold breaches
  cases hpending : (s.mon.get p).pending with
  | false => rfl
  | true =>
    obtain ⟨hvalid, hitem⟩ := h p hpending
    simp [hvalid, hitem]

theorem mon_endTick (s t : State) (p : InPort) : (endTick s t).mon.get p = nextMonitor s p := by cases p <;> rfl

/-- A monitor left pending holds an offer that did not transfer. -/
theorem offer_of_nextMonitor_pending {s : State} {p : InPort} (h : (nextMonitor s p).pending = true) :
    inValid p s = true ∧ ¬ inReady p s = true ∧ (nextMonitor s p).item = inItem p s := by
  unfold nextMonitor at h ⊢
  split_ifs at h ⊢ with hwaits
  obtain ⟨hvalid, hready⟩ := Bool.and_eq_true_iff.mp hwaits
  exact ⟨hvalid, by simpa using hready, rfl⟩

/-- A scripted port whose queue, idle value and configuration stay makes the same offer. -/
theorem offer_congr {s t : State} {p : InPort} (hs : s.env.trace = []) (ht : t.env.trace = [])
    (hidle : t.env.idle = s.env.idle) (hqueue : t.env.queues.get p = s.env.queues.get p) (hcfg : t.cfg = s.cfg) :
    inValid p t = inValid p s ∧ inItem p t = inItem p s := by
  have hoffer : (rawInputs t).offers.get p = (rawInputs s).offers.get p := by
    rw [offer_of_scripted hs, offer_of_scripted ht, hidle, hqueue]
  exact ⟨by rw [inValid, inValid, hoffer], by rw [inItem, inItem, hoffer, hcfg]⟩

/-- Settles O48: a monitor left pending has the offer that waited, which still heads its queue. -/
theorem scriptedOffersKeepTheObligation : Obligations.ScriptedOffersKeepTheObligation := by
  intro s htrace hmatch
  refine ⟨envKeeps_of_monitorsMatchOffers hmatch, fun t h hfault => ?_⟩
  have hqueues := (transfersFollowTheHandshake s t h hfault).1
  obtain ⟨-, ⟨f, rfl⟩ | ⟨-, rfl⟩⟩ := step_next_cases h
  · exact absurd hfault (Option.some_ne_none f)
  have htail : (endTick s (commit s (unitState s))).env.trace = [] := congrArg List.tail htrace
  refine ⟨htail, fun p hpending => ?_⟩
  rw [mon_endTick] at hpending ⊢
  obtain ⟨hvalid, hstall, hitem⟩ := offer_of_nextMonitor_pending hpending
  have hqueue := (hqueues p).trans (queueAfter_of_not_ready hstall).symm
  obtain ⟨hvalid', hitem'⟩ := offer_congr htrace htail rfl hqueue rfl
  exact ⟨hvalid'.trans hvalid, hitem.trans hitem'.symm⟩

end Sys2Proof.Machine
end

section
/-! PROOF. The statements of 40_rectifier.md. RECT computes on signed values of `WR` bits; the magnitude is at most
`2^(WR-1)`, which the widened field of R151 holds, and which the configuration check keeps below the sign bit of BOX's
sample (R155). -/

namespace Sys2Proof.Machine

/-! ### The magnitude -/

theorem ite_neg_eq_abs (v : Int) : (if v < 0 then -v else v) = |v| := by
  split_ifs with hneg
  · exact (abs_of_neg hneg).symm
  · exact (abs_of_nonneg (not_lt.mp hneg)).symm

theorem rectValue_eq (c : Config) (l r : Int) : rectValue c l r = storeU (c.WR + 1) (max |l| |r|).toNat := by
  rw [← ite_neg_eq_abs l, ← ite_neg_eq_abs r, rectValue]

theorem abs_le_of_inS {w : Nat} {v : Int} (h : inS w v) : |v| ≤ 2 ^ (w - 1) := abs_le.mpr ⟨h.1, h.2.le⟩

/-- The most negative value alone reaches the bound, and the bit R151 adds leaves room for it. -/
theorem max_abs_toNat_le {w : Nat} {l r : Int} (hl : inS w l) (hr : inS w r) :
    (max |l| |r|).toNat ≤ 2 ^ (w - 1) := by
  have hmax : max |l| |r| ≤ 2 ^ (w - 1) := max_le (abs_le_of_inS hl) (abs_le_of_inS hr)
  exact Int.toNat_le.mpr (by exact_mod_cast hmax)

theorem rectValue_of_inS {c : Config} {l r : Int} (hl : inS c.WR l) (hr : inS c.WR r) :
    rectValue c l r = (max |l| |r|).toNat := by
  have hfits : 2 ^ (c.WR - 1) < 2 ^ (c.WR + 1) := Nat.pow_lt_pow_right one_lt_two (by omega)
  rw [rectValue_eq, storeU_of_inU ((max_abs_toNat_le hl hr).trans_lt hfits)]

theorem rectValue_le {c : Config} {l r : Int} (hl : inS c.WR l) (hr : inS c.WR r) :
    rectValue c l r ≤ 2 ^ (c.WR - 1) :=
  (rectValue_of_inS hl hr).trans_le (max_abs_toNat_le hl hr)

theorem rectValue_cast {c : Config} {l r : Int} (hl : inS c.WR l) (hr : inS c.WR r) :
    (rectValue c l r : Int) = max |l| |r| := by
  rw [rectValue_of_inS hl hr, Int.toNat_of_nonneg (le_max_of_le_left (abs_nonneg l))]

/-! ### The operands, and the sample BOX reads -/

theorem rectL_inS {s : State} (hc : s.cfg.wellFormed = true) : inS s.cfg.WR (rectL s) :=
  readS_inS (Config.rect_lt_box hc).1 (field_inU _ _ _)

theorem rectR_inS {s : State} (hc : s.cfg.wellFormed = true) : inS s.cfg.WR (rectR s) :=
  readS_inS (Config.rect_lt_box hc).1 (field_inU _ _ _)

/-- A payload below the sign bit of BOX's sample is read as it stands. -/
theorem boxInX_of_lt {s : State} (h : (boxInItem s).payload < 2 ^ (s.cfg.WB - 1)) :
    boxInX s = (boxInItem s).payload := by
  have hfits : inU s.cfg.WB (boxInItem s).payload := h.trans_le (Nat.pow_le_pow_right two_pos (Nat.sub_le _ _))
  rw [boxInX, storeU_of_inU hfits, readS_of_lt h]

/-- `C_RECT_BOX` leaves a bit above the largest magnitude for the sign (R155). -/
theorem two_pow_rect_lt_box {c : Config} (hc : c.wellFormed = true) : 2 ^ (c.WR - 1) < 2 ^ (c.WB - 1) := by
  obtain ⟨hrect, hbox⟩ := Config.rect_lt_box hc
  exact Nat.pow_lt_pow_right one_lt_two (by omega)

/-- Settles O13: both operands are `WR`-bit values, so the magnitude fits its own field and BOX's. -/
theorem rectMagnitudeIsExact : Obligations.RectMagnitudeIsExact := by
  intro s hc
  have hl := rectL_inS hc
  have hr := rectR_inS hc
  have hle := rectValue_le hl hr
  exact ⟨hl, hr, rectValue_cast hl hr, hle, boxInX_of_lt (hle.trans_lt (two_pow_rect_lt_box hc))⟩

/-! ### The operations -/

theorem takeIn_rectIn_onlyRect (s : State) : onlyRect s (takeIn .rectIn s) := by
  rw [onlyRect, takeIn_spec]
  rfl

theorem takeIn_queue_of_xfer {p : InPort} {s : State} (h : inXfer p s = true) :
    (takeIn p s).env.queues.get p = queueTaken p s :=
  (takeIn_queue p s).trans (if_pos h)

/-- Settles O14: RECT's signals are BOX's by definition, and XFER is the transfer on `rect_in`. -/
theorem rectOperationsComplete : Obligations.RectOperationsComplete := by
  intro s
  have hxfer (h : inXfer .rectIn s = true) :
      ∃ t, exec .rectXfer s = .next t ∧ onlyRect s t ∧ t.env.queues.rectIn = queueTaken .rectIn s :=
    ⟨takeIn .rectIn s, rfl, takeIn_rectIn_onlyRect s, takeIn_queue_of_xfer h⟩
  exact ⟨rfl, rfl, rfl, rfl, hxfer, rfl, rfl⟩

end Sys2Proof.Machine
end

section
/-! PROOF. The arithmetic of BOX's window: the ring's slots counted back from the write address (41_boxcar.md R179), and
an average of words, which fits the words' own field (R176). -/

namespace Sys2Proof.Machine

/-! ### The slots of the ring -/

/-- The slot of the sample `j` writes before the newest, in a ring of `D` words whose next write is at `a`. -/
def ringSlot (D a j : Nat) : Nat := (a + D - 1 - j) % D

theorem holdsSamples_iff (xs : List Int) (s : State) :
    holdsSamples xs s ↔ ∀ j, j < s.cfg.D → s.box.buf.read (ringSlot s.cfg.D s.box.addr j) = xs.getD j 0 := Iff.rfl

theorem ringSlot_eq_ite {D a j : Nat} (ha : a < D) (hj : j < D) :
    ringSlot D a j = if j < a then a - 1 - j else a + D - 1 - j := by
  unfold ringSlot
  split_ifs with hja
  · rw [show a + D - 1 - j = a - 1 - j + D by omega, Nat.add_mod_right, Nat.mod_eq_of_lt (by omega)]
  · exact Nat.mod_eq_of_lt (by omega)

theorem ringSlot_lt {D a j : Nat} (hj : j < D) : ringSlot D a j < D := Nat.mod_lt _ (by omega)

/-- Counting back from the write address is its own inverse, so the slots of the window are all of the ring. -/
theorem ringSlot_ringSlot {D a j : Nat} (ha : a < D) (hj : j < D) : ringSlot D a (ringSlot D a j) = j := by
  rw [ringSlot_eq_ite ha (ringSlot_lt hj), ringSlot_eq_ite ha hj]
  split_ifs <;> omega

/-- The write address after a write (41_boxcar.md R175). -/
theorem succ_mod_eq_ite {D a : Nat} (ha : a < D) : (a + 1) % D = if a + 1 = D then 0 else a + 1 := by
  split_ifs with hlast
  · rw [hlast, Nat.mod_self]
  · exact Nat.mod_eq_of_lt (by omega)

theorem ringSlot_succ_zero {D a : Nat} (ha : a < D) : ringSlot D ((a + 1) % D) 0 = a := by
  rw [ringSlot_eq_ite (Nat.mod_lt _ (by omega)) (by omega), succ_mod_eq_ite ha]
  split_ifs <;> omega

theorem ringSlot_succ_succ {D a j : Nat} (ha : a < D) (hj : j + 1 < D) :
    ringSlot D ((a + 1) % D) (j + 1) = ringSlot D a j := by
  rw [ringSlot_eq_ite (Nat.mod_lt _ (by omega)) hj, ringSlot_eq_ite ha (by omega), succ_mod_eq_ite ha]
  split_ifs <;> omega

/-- The word about to be replaced is the oldest of the window. -/
theorem ringSlot_ne_addr {D a j : Nat} (ha : a < D) (hj : j + 1 < D) : ringSlot D a j ≠ a := by
  rw [ringSlot_eq_ite ha (by omega)]
  split_ifs <;> omega

/-! ### The window -/

/-- The sum of the words is the sum of the samples, which lie in the same slots in another order. -/
theorem total_eq_windowSum {s : State} {xs : List Int} (haddr : s.box.addr < s.cfg.D) (h : holdsSamples xs s) :
    s.box.buf.total s.cfg.D = windowSum s.cfg.D xs := by
  have hsum (f : Nat → Int) : ((List.range s.cfg.D).map f).sum = ∑ j ∈ Finset.range s.cfg.D, f j := by
    rw [← List.toFinset_range, List.sum_toFinset f List.nodup_range]
  have hmem (j : Nat) (hj : j ∈ Finset.range s.cfg.D) :
      ringSlot s.cfg.D s.box.addr j ∈ Finset.range s.cfg.D :=
    Finset.mem_range.mpr (ringSlot_lt (Finset.mem_range.mp hj))
  have hinv (j : Nat) (hj : j ∈ Finset.range s.cfg.D) :
      ringSlot s.cfg.D s.box.addr (ringSlot s.cfg.D s.box.addr j) = j :=
    ringSlot_ringSlot haddr (Finset.mem_range.mp hj)
  rw [Memory.total, windowSum, hsum, hsum]
  refine Finset.sum_nbij' _ _ hmem hmem hinv hinv fun a ha => ?_
  rw [← (holdsSamples_iff xs s).mp h _ (Finset.mem_range.mp (hmem a ha)), hinv a ha]

/-- A sample written at the write address, which then advances, is the newest of the window. -/
theorem holdsSamples_cons {s t : State} {x : Int} {xs : List Int} (hD : t.cfg.D = s.cfg.D)
    (haddr : s.box.addr < s.cfg.D) (hnext : t.box.addr = (s.box.addr + 1) % s.cfg.D)
    (hread : ∀ a, t.box.buf.read a = if a = s.box.addr then x else s.box.buf.read a) (h : holdsSamples xs s) :
    holdsSamples (x :: xs) t := by
  rw [holdsSamples_iff, hD, hnext]
  intro j hj
  cases j with
  | zero => rw [ringSlot_succ_zero haddr, hread, if_pos rfl, List.getD_cons_zero]
  | succ j =>
    rw [ringSlot_succ_succ haddr hj, hread, if_neg (ringSlot_ne_addr haddr hj), List.getD_cons_succ]
    exact (holdsSamples_iff xs s).mp h j (by omega)

theorem holdsSamples_reset (c : Config) : holdsSamples [] (State.resetWith c) := fun _ _ => rfl

/-! ### The average -/

theorem Memory.total_bounds {w : Nat} {m : Memory} (h : ∀ e ∈ m, inS w e.2) (D : Nat) :
    -2 ^ (w - 1) * (D : Int) ≤ m.total D ∧ m.total D ≤ (2 ^ (w - 1) - 1) * D := by
  have hword : ∀ v ∈ (List.range D).map m.read, inS w v := by
    simpa using fun a _ => Memory.read_inS h a
  have hlow := List.card_nsmul_le_sum _ _ fun v hv => (hword v hv).1
  have hhigh := List.sum_le_card_nsmul _ _ fun v hv => Int.le_sub_one_of_lt (hword v hv).2
  rw [List.length_map, List.length_range, nsmul_eq_mul, mul_comm] at hlow hhigh
  exact ⟨hlow, hhigh⟩

/-- The floor of the words' average is no smaller than their least value and no larger than their greatest. -/
theorem Memory.average_inS {w D : Nat} {m : Memory} (h : ∀ e ∈ m, inS w e.2) (hD : 0 < D) :
    inS w (m.total D / D) := by
  have hpos : (0 : Int) < D := Int.natCast_pos.mpr hD
  obtain ⟨hlow, hhigh⟩ := Memory.total_bounds h D
  exact ⟨(Int.le_ediv_iff_mul_le hpos).mpr hlow,
    Int.lt_of_le_sub_one (Int.ediv_le_of_le_mul hpos hhigh)⟩

end Sys2Proof.Machine
end

section
/-! PROOF. The statements of 41_boxcar.md: each operation of BOX from a good state, where no store of R173-R176 loses a
bit, and the four operations after one another, which are the four ticks of R179. -/

namespace Sys2Proof

theorem Config.one_le_S (c : Config) : 1 ≤ c.S := Nat.le_add_left 1 _

end Sys2Proof

namespace Sys2Proof.Machine

/-! ### One operation -/

/-- Settles O15: the write address is inside the buffer, so the read has a word. -/
theorem boxAcceptLatches : Obligations.BoxAcceptLatches := by
  intro s _ _ haddr
  change execBoxAccept s = _
  rw [execBoxAccept, memRead_of_lt haddr]
  rfl

/-- Settles O16: the sample fits its word and the difference of two samples fits `delta`, so both stores are exact. -/
theorem boxWriteReplacesOneWord : Obligations.BoxWriteReplacesOneWord := by
  rintro s ⟨hc, ⟨-, haddr, hnew, hold, -, -, -, hwf, -⟩, -⟩ -
  have hWB := Config.one_le_WB hc
  refine ⟨s.box.buf.write s.box.addr s.box.newSample, ?_, fun a => Memory.read_write _ _ a hwf,
    Memory.wf_write _ _ hwf⟩
  change execBoxWrite s = _
  rw [execBoxWrite, memWrite_of_lt _ haddr, storeS_of_inS hWB hnew,
    storeS_of_inS (Nat.le_add_left 1 _) (inS_sub hWB hnew hold)]
  rfl

/-- The sum that ACCUM stores is that of the buffer's words, so it fits `box.sum` (10_state.md R25). -/
theorem accum_sum_inS {s : State} (hc : s.cfg.wellFormed = true) (h : BoxInv s) (haccum : s.box.state = boxAccum) :
    inS s.cfg.S (s.box.sum + s.box.delta) := by
  obtain ⟨-, -, -, -, -, -, -, -, hbuf, hok, -, -⟩ := h
  rw [(okBoxSum_iff_of_accum haccum).mp hok]
  exact inS_S_of_natAbs_le hc (Memory.natAbs_total_le (fun e hmem => (hbuf e hmem).2) _)

/-- Settles O17: the new sum fits its field, and the address wraps at `D`. -/
theorem boxAccumAddsExactly : Obligations.BoxAccumAddsExactly := by
  rintro s ⟨hc, hbox, -⟩ haccum
  have hstore := storeS_of_inS s.cfg.one_le_S (accum_sum_inS hc hbox haccum)
  obtain ⟨-, haddr, -⟩ := hbox
  change execBoxAccum s = _
  rw [execBoxAccum, hstore, succ_mod_eq_ite haddr]
  rfl

/-- The shift of R176 is the floor of the division by `D = 2^k`. -/
theorem boxAverage_eq {s : State} (hc : s.cfg.wellFormed = true) : boxAverage s = s.box.sum / s.cfg.D := by
  rw [boxAverage, Config.D_eq hc, Nat.cast_pow, Nat.cast_ofNat]

/-- Settles O18: `box.sum` is the sum of `D` words of `WB` bits, so its floor average is one. -/
theorem boxEmitsFloorAverage : Obligations.BoxEmitsFloorAverage := by
  rintro s ⟨hc, ⟨-, haddr, -, -, -, -, -, -, hbuf, hok, -, -⟩, -⟩ hemit
  have hD : 0 < s.cfg.D := Nat.zero_lt_of_lt haddr
  have hpos : (0 : Int) < s.cfg.D := Int.natCast_pos.mpr hD
  have hfits : inS s.cfg.WB (boxAverage s) := by
    rw [boxAverage_eq hc, (okBoxSum_iff_of_not_accum (hemit ▸ by decide)).mp hok]
    exact Memory.average_inS (fun e hmem => (hbuf e hmem).2) hD
  refine ⟨boxAverage s, ?_, ?_, ?_, hfits⟩
  · change execBoxEmit s = _
    rw [execBoxEmit, storeS_of_inS (Config.one_le_WB hc) hfits]
    rfl
  · rw [boxAverage_eq hc]
    exact Int.ediv_mul_le _ hpos.ne'
  · rw [boxAverage_eq hc]
    exact Int.lt_ediv_add_one_mul_self _ hpos

/-- Settles O19: in `WAIT` the average is offered, so the consumer's `ready` makes the transfer. -/
theorem boxWaitsHoldsDrains : Obligations.BoxWaitsHoldsDrains := by
  refine fun s => ⟨rfl, rfl, fun hwait hready => ?_⟩
  have hxfer : outXfer .boxOut s = true := by
    simp [outXfer, outValid, boxOutValid, hwait, hready]
  change execBoxDrain s = _
  rw [execBoxDrain, deliver_spec, logAfter, if_pos hxfer]
  rfl

/-! ### Four ticks -/

theorem exists_step_of_cleanRun_succ {k : Nat} {s t : State} (h : cleanRun (k + 1) s = some t) :
    ∃ u, step s = .next u ∧ u.fault = none ∧ cleanRun k u = some t := by
  rw [cleanRun] at h
  split at h
  · next u hstep =>
    obtain ⟨hnone, hrun⟩ := Option.ite_none_right_eq_some.mp h
    exact ⟨u, hstep, hnone, hrun⟩
  · cases h

/-- The first tick of a clean run leaves BOX with the registers its own operation gives, whatever the other units do. -/
theorem box_after_first_tick {k : Nat} {s r t : State} {i : Instr} (hs : Inv s) (hsel : selected .box s = some i)
    (he : exec i s = .next r) (h : cleanRun (k + 1) s = some t) :
    ∃ u, Inv u ∧ u.cfg = s.cfg ∧ u.box = r.box ∧ cleanRun k u = some t := by
  obtain ⟨u, hstep, hnone, hrun⟩ := exists_step_of_cleanRun_succ h
  refine ⟨u, stepKeepsTheInvariant s u hs hstep, stepKeepsTheConfiguration s u hstep, ?_, hrun⟩
  obtain ⟨-, ⟨f, rfl⟩ | ⟨-, rfl⟩⟩ := step_next_cases hstep
  · exact absurd hnone (Option.some_ne_none f)
  · rw [← unitState_of_exec hsel he]
    rfl

/-- ACCEPT, WRITE and ACCUM put the accepted sample into the ring as its newest. -/
theorem box_pushes_sample {k : Nat} {s t : State} {xs : List Int} (hs : Inv s) (hidle : s.box.state = boxIdle)
    (hvalid : boxInValid s = true) (hheld : holdsSamples xs s) (h : cleanRun (k + 3) s = some t) :
    ∃ u, Inv u ∧ u.cfg = s.cfg ∧ u.box.state = boxEmit ∧ holdsSamples (boxInX s :: xs) u ∧ cleanRun k u = some t := by
  have haddr : s.box.addr < s.cfg.D := by
    obtain ⟨-, ⟨-, haddr, -⟩, -⟩ := hs
    exact haddr
  -- ACCEPT
  obtain ⟨s₁, hs₁, hcfg₁, hbox₁, h₁⟩ := box_after_first_tick hs (by simp [selected_box, hidle, hvalid])
    (boxAcceptLatches s hidle hvalid haddr) h
  have hwrite : s₁.box.state = boxWrite := by rw [hbox₁]
  -- WRITE
  obtain ⟨buf, hexec, hread, -⟩ := boxWriteReplacesOneWord s₁ hs₁ hwrite
  obtain ⟨s₂, hs₂, hcfg₂, hbox₂, h₂⟩ := box_after_first_tick hs₁ (by simp [selected_box, hwrite]) hexec h₁
  have haccum : s₂.box.state = boxAccum := by rw [hbox₂]
  -- ACCUM
  obtain ⟨s₃, hs₃, hcfg₃, hbox₃, h₃⟩ := box_after_first_tick hs₂ (by simp [selected_box, haccum])
    (boxAccumAddsExactly s₂ hs₂ haccum) h₂
  have hcfg : s₃.cfg = s.cfg := hcfg₃.trans (hcfg₂.trans hcfg₁)
  refine ⟨s₃, hs₃, hcfg, by rw [hbox₃], holdsSamples_cons (by rw [hcfg]) haddr ?_ ?_ hheld, h₃⟩
  · rw [succ_mod_eq_ite haddr, hbox₃, hbox₂, hbox₁, hcfg₂, hcfg₁]
  · rw [hbox₃, hbox₂]
    rw [hbox₁] at hread
    exact hread

/-- Settles O20: three ticks put the sample into the ring, and the sum whose average the fourth registers is the sum of
the ring's words (10_state.md R25). -/
theorem boxEmitsMovingAverage : Obligations.BoxEmitsMovingAverage := by
  refine ⟨holdsSamples_reset, fun s t xs hs hidle hvalid hheld hrun => ?_⟩
  obtain ⟨u, hu, hcfg, hemit, hpushed, hrun'⟩ := box_pushes_sample hs hidle hvalid hheld hrun
  -- EMIT
  obtain ⟨q, hexec, hlow, hhigh, -⟩ := boxEmitsFloorAverage u hu hemit
  obtain ⟨v, -, hcfgv, hboxv, hend⟩ := box_after_first_tick hu (by simp [selected_box, hemit]) hexec hrun'
  obtain rfl := Option.some.inj hend
  have hwindow : u.box.sum = windowSum u.cfg.D (boxInX s :: xs) := by
    obtain ⟨-, ⟨-, haddr, -, -, -, -, -, -, -, hok, -⟩, -⟩ := hu
    rw [(okBoxSum_iff_of_not_accum (hemit ▸ by decide)).mp hok, total_eq_windowSum haddr hpushed]
  rw [hwindow, hcfg] at hlow hhigh
  refine ⟨by rw [hboxv], ?_, by rwa [hboxv], by rwa [hboxv]⟩
  rw [holdsSamples_iff, hboxv, hcfgv]
  exact (holdsSamples_iff _ u).mp hpushed

end Sys2Proof.Machine
end

section
/-! PROOF. The statements of 42_peak.md. In a good state the envelope, its integer part and the counter fit their fields,
so no store of R202-R204 loses a bit; for R208, a decay takes at least 1 off a peak of `2^point` or more. -/

namespace Sys2Proof.Machine

/-! ### The slot load on an accepted sample -/

/-- PEAK accepts exactly when `peak_in` transfers (42_peak.md R201), so the load takes the sample. -/
theorem peakLoad_of_accept {s : State} (h : peakAccept s = true) (y peak count : Nat) :
    peakLoad s y peak count =
      { s with
        peak := { peak := peak, count := count, ov := true, y := y }
        env :=
          { s.env with
            queues := { s.env.queues with peakIn := queueTaken .peakIn s }
            taken := { s.env.taken with peakOut := logAfter .peakOut s } } } := by
  have hxfer : inXfer .peakIn s = true := h
  rw [peakLoad_spec, if_pos hxfer]
  rfl

/-! ### The values stored -/

theorem peakInt_eq_div (s : State) : peakInt s = s.peak.peak / 2 ^ s.cfg.point := Nat.shiftRight_eq_div_pow _ _

/-- The new envelope of R202: a sample of `WP` bits, shifted by `point`, is within the field of R26. -/
theorem attack_store_exact (s : State) :
    storeU (s.cfg.WP + s.cfg.point) (peakX s <<< s.cfg.point) = peakX s * 2 ^ s.cfg.point := by
  have hx : inU s.cfg.WP (peakX s) := inItem_payload_inU .peakIn s
  rw [storeU_of_inU (Nat.shiftLeft_lt hx), Nat.shiftLeft_eq]

/-- The output of R203 and R204: the integer part of the envelope fits `peak.y`. -/
theorem peakInt_store_exact {s : State} (h : PeakInv s) :
    storeU s.cfg.WP (peakInt s) = s.peak.peak / 2 ^ s.cfg.point := by
  obtain ⟨hpeak, -⟩ := h
  have hint : inU s.cfg.WP (peakInt s) := by
    rw [peakInt_eq_div]
    exact Nat.div_lt_of_lt_mul (by rwa [inU, Nat.add_comm, pow_add] at hpeak)
  rw [storeU_of_inU hint, peakInt_eq_div]

/-- The counter of R203: below `n-1` it has room for one more. -/
theorem count_store_exact {s : State} (h : PeakInv s) (hlast : s.peak.count ≠ s.cfg.n - 1) :
    storeU s.cfg.countWidth (s.peak.count + 1) = s.peak.count + 1 := by
  obtain ⟨-, -, -, hok⟩ := h
  obtain ⟨hcount, -⟩ := (okPeak_iff s).mp hok
  have hn : s.cfg.n ≤ 2 ^ s.cfg.countWidth :=
    (clog2_spec _).trans (Nat.pow_le_pow_right two_pos (le_max_right _ _))
  exact storeU_of_inU (lt_of_lt_of_le (by omega) hn)

/-! ### One operation -/

/-- Settles O21: the accepted sample is loaded, and its shift into the envelope loses no bit. -/
theorem peakAttackTracksInput : Obligations.PeakAttackTracksInput := by
  intro s _ haccept _
  change execPeakAttack s = _
  rw [execPeakAttack, attack_store_exact, peakLoad_of_accept haccept]

/-- Settles O22: both operations load the slot with the integer part from before the decay. -/
theorem peakHoldsAndDecays : Obligations.PeakHoldsAndDecays := by
  rintro s ⟨-, -, hpeak, -⟩ haccept -
  refine ⟨fun hlast => ?_, fun _ => ?_⟩
  · change execPeakHold s = _
    rw [execPeakHold, peakInt_store_exact hpeak, count_store_exact hpeak hlast, peakLoad_of_accept haccept]
  · change execPeakDecay s = _
    rw [execPeakDecay, peakInt_store_exact hpeak, peakInt_eq_div, peakLoad_of_accept haccept]

theorem outXfer_peakOut_of_ready {s : State} (h : outReady .peakOut s = true) : outXfer .peakOut s = s.peak.ov := by
  rw [outXfer, h, Bool.and_true]
  rfl

/-- Settles O23: with its consumer ready, a slot transfers exactly when it holds an item. -/
theorem peakKeepsAndDrains : Obligations.PeakKeepsAndDrains := by
  refine fun s => ⟨rfl, fun _ hready => ?_⟩
  change execPeakDrain s = _
  rw [execPeakDrain, deliver_spec, logAfter, outXfer_peakOut_of_ready hready]
  rfl

/-! ### Decays in a row -/

/-- The envelope after one decay (42_peak.md R204). -/
def decayed (point peak : Nat) : Nat := peak - peak / 2 ^ point

theorem decayed_le (point peak : Nat) : decayed point peak ≤ peak := Nat.sub_le _ _

/-- An envelope whose integer part is not 0 loses at least 1. -/
theorem decayed_lt {point peak : Nat} (h : 2 ^ point ≤ peak) : decayed point peak < peak := by
  have hint : 0 < peak / 2 ^ point := Nat.div_pos h (Nat.two_pow_pos _)
  exact Nat.sub_lt ((Nat.two_pow_pos _).trans_le h) hint

/-- After `n` decays the integer part is 0, or each of them took at least 1 off the envelope. -/
theorem decayed_iterate_lt_or_add_le (point peak n : Nat) :
    (decayed point)^[n] peak < 2 ^ point ∨ (decayed point)^[n] peak + n ≤ peak := by
  induction n with
  | zero => exact .inr le_rfl
  | succ n ih =>
    rw [Function.iterate_succ_apply']
    set p := (decayed point)^[n] peak
    rcases lt_or_ge p (2 ^ point) with hzero | hpos
    · exact .inl ((decayed_le point p).trans_lt hzero)
    · have hlt := decayed_lt hpos
      omega

/-- So `2^point` decays take a whole unit off the integer part, or leave nothing of it. -/
theorem decayed_iterate_div_lt {point peak : Nat} (h : 1 ≤ peak / 2 ^ point) :
    (decayed point)^[2 ^ point] peak / 2 ^ point < peak / 2 ^ point := by
  rcases decayed_iterate_lt_or_add_le point peak (2 ^ point) with hzero | hfell
  · rwa [Nat.div_eq_of_lt hzero]
  · calc (decayed point)^[2 ^ point] peak / 2 ^ point
        < ((decayed point)^[2 ^ point] peak + 2 ^ point) / 2 ^ point := by
          rw [Nat.add_div_right _ (Nat.two_pow_pos _)]
          exact Nat.lt_succ_self _
      _ ≤ peak / 2 ^ point := Nat.div_le_div_right hfell

/-- What `PEAK.DECAY` does to the envelope in any state, whether a sample is accepted or not. -/
theorem exec_peakDecay_envelope (s : State) :
    ∃ t, exec .peakDecay s = .next t ∧ t.cfg = s.cfg ∧ t.peak.peak = decayed s.cfg.point s.peak.peak := by
  refine ⟨_, rfl, ?_, ?_⟩
  · rw [peakLoad_spec]
  · rw [peakLoad_spec, peakInt_eq_div]
    rfl

theorem repeatOp_peakDecay_envelope (n : Nat) (s : State) :
    ∃ t, repeatOp .peakDecay n s = some t ∧ t.cfg = s.cfg ∧
      t.peak.peak = (decayed s.cfg.point)^[n] s.peak.peak := by
  induction n generalizing s with
  | zero => exact ⟨s, rfl, rfl, rfl⟩
  | succ n ih =>
    obtain ⟨u, hexec, hcfg, hpeak⟩ := exec_peakDecay_envelope s
    obtain ⟨t, hrun, hcfg', hpeak'⟩ := ih u
    refine ⟨t, ?_, hcfg'.trans hcfg, ?_⟩
    · rw [repeatOp, hexec]
      exact hrun
    · rw [hpeak', hcfg, hpeak, Function.iterate_succ_apply]

/-- Settles O24: a decay never raises the envelope, and `2^point` of them lower its integer part. -/
theorem peakDecayLowersThePeak : Obligations.PeakDecayLowersThePeak := by
  refine fun s => ⟨fun t he => ?_, fun hpos => ?_⟩
  · obtain ⟨u, hexec, hcfg, hpeak⟩ := exec_peakDecay_envelope s
    obtain rfl := Host.Outcome.next.inj (hexec.symm.trans he)
    rw [peakInt_eq_div, peakInt_eq_div, hcfg, hpeak]
    exact Nat.div_le_div_right (decayed_le _ _)
  · obtain ⟨t, hrun, hcfg, hpeak⟩ := repeatOp_peakDecay_envelope (2 ^ s.cfg.point) s
    refine ⟨t, hrun, ?_⟩
    rw [peakInt_eq_div] at hpos
    rw [peakInt_eq_div, peakInt_eq_div, hcfg, hpeak]
    exact decayed_iterate_div_lt hpos

end Sys2Proof.Machine
end

section
/-! PROOF. The statements of 43_quantizer.md. An accepted item carries a segment of an accepted configuration and a
latched sample, so the deferred operands fit their fields; the bound of R238 keeps the interpolation below `output_max`,
so the reduction of R236 never changes it. -/

namespace Sys2Proof

/-! ### The scale factors of an accepted configuration -/

theorem Config.mulAt_ne_zero {c : Config} (h : c.wellFormed = true) {i : Nat} (hi : i < c.N) : c.mulAt i ≠ 0 := by
  have hall := Config.passes_of_wellFormed h .mulNonzero
  simp only [Check.passes, Config.okMulNonzero, List.all_eq_true, List.mem_range, bne_iff_ne] at hall
  exact hall i hi

theorem Config.mulAt_lt {c : Config} (h : c.wellFormed = true) {i : Nat} (hi : i < c.N) : c.mulAt i < 2 ^ c.MW := by
  have hall := Config.passes_of_wellFormed h .mulW
  simp only [Check.passes, Config.okMulW, Bool.and_eq_true, List.all_eq_true, List.mem_range, decide_eq_true_eq] at hall
  exact hall.2 i hi

end Sys2Proof

namespace Sys2Proof.Machine

/-! ### The value of an item (R232-R236) -/

theorem interpolate_eq (c : Config) (mm md : Nat) : interpolate c mm md = mm * md / 2 ^ c.shift % 2 ^ c.OW := by
  rw [interpolate, storeU, Nat.shiftRight_eq_div_pow]

theorem interpolate_le_outputMax (c : Config) (mm md : Nat) : interpolate c mm md ≤ c.outputMax :=
  Nat.le_sub_one_of_lt (storeU_lt _ _)

section Quantize
variable {c : Config} {d lo hi mul : Nat}

theorem quantize_of_hi_le (h : hi ≤ d) : quantize c d lo hi mul = c.outputMax := if_pos h

theorem quantize_of_le_lo (hhi : d < hi) (hlo : d ≤ lo) : quantize c d lo hi mul = 0 := by
  rw [quantize, if_neg hhi.not_ge, if_pos hlo]

theorem quantize_of_between (hlo : lo < d) (hhi : d < hi) (hmul : mul ≠ 0) :
    quantize c d lo hi mul = interpolate c mul (d - lo) := by
  rw [quantize, if_neg hhi.not_ge, if_neg hlo.not_ge, if_neg hmul]

theorem quantize_le_outputMax : quantize c d lo hi mul ≤ c.outputMax := by
  unfold quantize
  split_ifs with hhi hlo hmul
  · -- SATHI
    exact le_rfl
  · -- SATLO
    exact Nat.zero_le _
  · -- HALF
    exact Nat.shiftRight_le _ _
  · -- DEFER and MUL
    exact interpolate_le_outputMax _ _ _

/-! ### A well-scaled segment (R238) -/

/-- Strictly inside a well-scaled segment the scaled distance from `lo` has not reached `output_max`. -/
theorem scaled_lt_outputMax (h : wellScaled c lo hi mul) (hlo : lo < d) (hhi : d < hi) :
    mul * (d - lo) / 2 ^ c.shift < c.outputMax := by
  obtain ⟨hseg, hpos, hbound⟩ := h
  apply Nat.div_lt_of_lt_mul
  calc mul * (d - lo)
      < mul * (hi - lo) := Nat.mul_lt_mul_of_pos_left (by omega) hpos
    _ ≤ c.outputMax * 2 ^ c.shift := (Nat.le_div_iff_mul_le (by omega)).mp hbound
    _ = 2 ^ c.shift * c.outputMax := Nat.mul_comm _ _

/-- So the interpolation fits `OW` bits and is not reduced. -/
theorem quantize_of_wellScaled (h : wellScaled c lo hi mul) (hlo : lo < d) (hhi : d < hi) :
    quantize c d lo hi mul = mul * (d - lo) / 2 ^ c.shift := by
  have hlt := scaled_lt_outputMax h hlo hhi
  obtain ⟨-, hpos, -⟩ := h
  rw [quantize_of_between hlo hhi (Nat.one_le_iff_ne_zero.mp hpos), interpolate_eq]
  exact Nat.mod_eq_of_lt (hlt.trans (outputMax_inU c))

theorem quantize_mono (h : wellScaled c lo hi mul) {e : Nat} (hde : d ≤ e) :
    quantize c d lo hi mul ≤ quantize c e lo hi mul := by
  rcases le_or_gt hi e with he | he
  · rw [quantize_of_hi_le he]
    exact quantize_le_outputMax
  have hd : d < hi := hde.trans_lt he
  rcases le_or_gt d lo with hlo | hlo
  · rw [quantize_of_le_lo hd hlo]
    exact Nat.zero_le _
  rw [quantize_of_wellScaled h hlo hd, quantize_of_wellScaled h (hlo.trans_le hde) he]
  exact Nat.div_le_div_right (Nat.mul_le_mul_left _ (Nat.sub_le_sub_right hde _))

end Quantize

/-- Settles O29: below `lo` and from `hi` on the value is a bound, and between them it is the unreduced floor. -/
theorem wellScaledSegmentIsMonotone : Obligations.WellScaledSegmentIsMonotone := by
  intro c lo hi mul _ h
  have ⟨hseg, _, _⟩ := h
  refine ⟨fun d hlo => quantize_of_le_lo (hlo.trans_lt hseg) hlo, fun d => quantize_of_hi_le,
    fun d hlo hhi => ⟨quantize_of_wellScaled h hlo hhi, ?_⟩, fun d e => quantize_mono h⟩
  rw [quantize_of_wellScaled h hlo hhi]
  exact Nat.le_sub_one_of_lt (scaled_lt_outputMax h hlo hhi)

/-! ### The accepted item (R231) -/

/-- While BAR is busy, `bar_q` carries segment `bar.idx` and the latched sample (44_bargraph.md R261). -/
theorem barQ_of_lt {s : State} (h : s.bar.idx < s.cfg.N) :
    barQ s = ⟨s.bar.data, s.cfg.thrAt s.bar.idx, s.cfg.thrAt (s.bar.idx + 1), s.cfg.mulAt s.bar.idx, s.bar.idx == 0,
      s.bar.idx == s.cfg.N - 1⟩ := if_pos h

theorem barIdx_lt_of_qntAccept {s : State} (h : qntAccept s = true) : s.bar.idx < s.cfg.N := by
  simp only [qntAccept, barQValid, Bool.and_eq_true, decide_eq_true_eq] at h
  exact h.1

theorem qntIdle_of_qntAccept {s : State} (h : qntAccept s = true) : s.qnt.state = qntIdle := by
  simp only [qntAccept, qntInReady, Bool.and_eq_true, beq_iff_eq] at h
  exact h.2.1

section Accepted
variable {s : State} (hs : Inv s) (haccept : qntAccept s = true)
include hs haccept

theorem barQ_data_inU : inU s.cfg.IW (barQ s).data := by
  obtain ⟨-, -, -, -, ⟨-, hdata⟩, -⟩ := hs
  rw [barQ_of_lt (barIdx_lt_of_qntAccept haccept)]
  exact hdata

theorem barQ_mul_inU : inU s.cfg.MW (barQ s).mul := by
  have hidx := barIdx_lt_of_qntAccept haccept
  rw [barQ_of_lt hidx]
  exact Config.mulAt_lt hs.1 hidx

theorem barQ_mul_ne_zero : (barQ s).mul ≠ 0 := by
  have hidx := barIdx_lt_of_qntAccept haccept
  rw [barQ_of_lt hidx]
  exact Config.mulAt_ne_zero hs.1 hidx

end Accepted

/-! ### One operation -/

/-- Settles O26: both operands of an accepted item fit the fields that hold them. -/
theorem qntDefersOneCycle : Obligations.QntDefersOneCycle := by
  intro s hs _ haccept _ _ _
  have hmd : inU s.cfg.IW ((barQ s).data - (barQ s).lo) := (Nat.sub_le _ _).trans_lt (barQ_data_inU hs haccept)
  change execQntDefer s = _
  rw [execQntDefer, storeU_of_inU hmd, storeU_of_inU (barQ_mul_inU hs haccept), deliver_spec]
  rfl

/-- Settles O25: three of the operations are the slot load with their value, the fourth drains the slot. -/
theorem qntEmitsImmediately : Obligations.QntEmitsImmediately := by
  intro s _
  refine ⟨fun _ _ => ?_, fun _ _ _ => ?_, fun _ _ _ _ => ?_, fun _ => ?_⟩
  · change execQntSathi s = _
    rw [execQntSathi, qntLoad_spec]
    rfl
  · change execQntSatlo s = _
    rw [execQntSatlo, qntLoad_spec]
    rfl
  · change execQntHalf s = _
    rw [execQntHalf, qntLoad_spec, Nat.shiftRight_one]
    rfl
  · change execQntNoacc s = _
    rw [execQntNoacc, deliver_spec]
    cases outReady .qntOut s
    · rw [Bool.not_false, Bool.and_true]
      rfl
    · rw [Bool.not_true, Bool.and_false]
      rfl

/-- Settles O27: the two branches of `QNT.MUL`, on the slot. -/
theorem qntMultiplies : Obligations.QntMultiplies := by
  refine fun s _ => ⟨fun hempty => ?_, fun hfull => ?_⟩
  · change execQntMul s = _
    rw [execQntMul, hempty, interpolate_eq]
    rfl
  · change execQntMul s = _
    rw [execQntMul, if_pos hfull]
    rfl

/-! ### The value of every accepted item -/

/-- A slot load in `IDLE` presents its value with the item's framing. -/
theorem qntLoad_presents {s : State} (hidle : s.qnt.state = qntIdle) (v : Nat) :
    (qntLoad s v).qnt.state = qntIdle ∧ (qntLoad s v).qnt.ov = true ∧ (qntLoad s v).qnt.f = (barQ s).first ∧
      (qntLoad s v).qnt.l = (barQ s).last ∧ (qntLoad s v).qnt.v = v := by
  rw [qntLoad_spec]
  exact ⟨hidle, rfl, rfl, rfl, rfl⟩

/-- Settles O28: the operation selected on an accept is the branch of `quantize` that the item takes. -/
theorem qntComputesTheItemsValue : Obligations.QntComputesTheItemsValue := by
  intro s i hs haccept hsel
  have hidle := qntIdle_of_qntAccept haccept
  have hne : s.qnt.state ≠ qntMul := hidle ▸ by decide
  rw [selected_qnt, if_neg hne, if_pos haccept] at hsel
  simp only [qntGeHi_iff, qntLeLo_iff, qntMulZero_iff] at hsel
  split_ifs at hsel with hhi hlo hzero <;> cases hsel
  · -- SATHI
    rw [quantize_of_hi_le hhi]
    exact ⟨_, rfl, .inl (qntLoad_presents hidle _)⟩
  · -- SATLO
    rw [quantize_of_le_lo (not_le.mp hhi) hlo]
    exact ⟨_, rfl, .inl (qntLoad_presents hidle _)⟩
  · -- HALF: no configured segment has `mul = 0`
    exact absurd hzero (barQ_mul_ne_zero hs haccept)
  · -- DEFER, then MUL
    have hdefer := qntDefersOneCycle s hs hidle haccept (not_le.mp hhi) (not_le.mp hlo) hzero
    refine ⟨_, hdefer, .inr ⟨rfl, rfl, _, (qntMultiplies _ rfl).left rfl, rfl, rfl, rfl, ?_⟩⟩
    rw [quantize_of_between (not_le.mp hlo) (not_le.mp hhi) hzero, interpolate_eq]

end Sys2Proof.Machine
end

section
/-! PROOF. The statements of 44_bargraph.md about one operation and about the values of one packet. The thresholds
ascend strictly, so all segments but the sample's own are saturated (R268). -/

namespace Sys2Proof

/-! ### The thresholds of an accepted configuration -/

theorem Config.thrAt_lt_succ {c : Config} (h : c.wellFormed = true) {i : Nat} (hi : i < c.N) :
    c.thrAt i < c.thrAt (i + 1) := by
  have hall := Config.passes_of_wellFormed h .thrAsc
  simp only [Check.passes, Config.okThrAsc, Bool.and_eq_true, List.all_eq_true, List.mem_range, decide_eq_true_eq]
    at hall
  exact hall.1 i hi

theorem Config.thrAt_le_of_le {c : Config} (h : c.wellFormed = true) {i j : Nat} (hij : i ≤ j) (hj : j ≤ c.N) :
    c.thrAt i ≤ c.thrAt j := by
  induction j, hij using Nat.le_induction with
  | base => exact le_rfl
  | succ j _ ih => exact (ih (by omega)).trans (Config.thrAt_lt_succ h hj).le

end Sys2Proof

namespace Sys2Proof.Machine

/-! ### One operation -/

/-- `bar.idx` has room for `N` (10_state.md R30). -/
theorem barIdx_store_exact {c : Config} {i : Nat} (h : i < c.N) : storeU c.idxWidth (i + 1) = i + 1 :=
  storeU_of_inU (lt_of_lt_of_le (by omega) (clog2_spec (c.N + 1)))

/-- Settles O30: while BAR is idle an offer is a transfer, and the next index fits its field. -/
theorem barSequencesSegments : Obligations.BarSequencesSegments := by
  refine fun s => ⟨fun hbusy => ⟨barQ_of_lt hbusy, ?_⟩, fun hidle hvalid => ?_, rfl, rfl⟩
  · change execBarPresent s = _
    rw [execBarPresent, barIdx_store_exact hbusy]
    rfl
  · have hxfer : inXfer .barIn s = true := by
      simp [inXfer, inReady, barInReady, hidle, hvalid]
    change execBarAccept s = _
    rw [execBarAccept, takeIn_spec, if_pos hxfer]
    rfl

/-! ### The values of one packet (R268) -/

section Packet
variable {c : Config} {d i j : Nat}

theorem packetValue_le_outputMax : packetValue c d i ≤ c.outputMax := quantize_le_outputMax

theorem packetValue_of_thrAt_succ_le (h : c.thrAt (i + 1) ≤ d) : packetValue c d i = c.outputMax :=
  quantize_of_hi_le h

theorem packetValue_of_le_thrAt (hc : c.wellFormed = true) (hi : i < c.N) (h : d ≤ c.thrAt i) :
    packetValue c d i = 0 :=
  quantize_of_le_lo (h.trans_lt (Config.thrAt_lt_succ hc hi)) h

/-- Of two items, the later is 0 or the earlier is `output_max`: the sample is above at most one of their segments. -/
theorem packetValue_antitone (hc : c.wellFormed = true) (hij : i ≤ j) (hj : j < c.N) :
    packetValue c d j ≤ packetValue c d i := by
  rcases hij.eq_or_lt with rfl | hlt
  · exact le_rfl
  have hthr : c.thrAt (i + 1) ≤ c.thrAt j := Config.thrAt_le_of_le hc hlt hj.le
  rcases le_or_gt d (c.thrAt j) with hbelow | habove
  · rw [packetValue_of_le_thrAt hc hj hbelow]
    exact Nat.zero_le _
  · rw [packetValue_of_thrAt_succ_le (hthr.trans habove.le)]
    exact packetValue_le_outputMax

/-- The interpolation of the sample's own segment is 0 at its lower threshold. -/
theorem packetValue_of_mem_segment (h : wellScaled c (c.thrAt j) (c.thrAt (j + 1)) (c.mulAt j)) (hlo : c.thrAt j ≤ d)
    (hhi : d < c.thrAt (j + 1)) : packetValue c d j = c.mulAt j * (d - c.thrAt j) / 2 ^ c.shift := by
  rcases hlo.eq_or_lt with heq | hlt
  · rw [packetValue, quantize_of_le_lo hhi heq.ge, ← heq, Nat.sub_self, Nat.mul_zero, Nat.zero_div]
  · exact quantize_of_wellScaled h hlt hhi

end Packet

/-- Settles O31: the segments below the sample's have their upper threshold below it, those above their lower one. -/
theorem packetShape : Obligations.PacketShape := by
  intro c hc hscaled
  refine ⟨fun d i j => packetValue_antitone hc, fun d e i hde hi => quantize_mono (hscaled i hi) hde,
    fun d j hj hlo hhi => ⟨fun i hij => ?_, packetValue_of_mem_segment (hscaled j hj) hlo hhi, fun i hji hi => ?_⟩,
    fun d i hd hi => ?_, fun d i hd hi => ?_⟩
  · exact packetValue_of_thrAt_succ_le ((Config.thrAt_le_of_le hc hij hj.le).trans hlo)
  · exact packetValue_of_le_thrAt hc hi (hhi.le.trans (Config.thrAt_le_of_le hc hji hi.le))
  · exact packetValue_of_le_thrAt hc hi (hd.le.trans (Config.thrAt_le_of_le hc (Nat.zero_le i) hi.le))
  · exact packetValue_of_thrAt_succ_le ((Config.thrAt_le_of_le hc hi le_rfl).trans hd)

end Sys2Proof.Machine
end
section
/-! PROOF. One packet per sample (44_bargraph.md R266). The items still to come out of `qnt_out` lie, oldest first, in
QNT's slot, in QNT's deferred cycle, in the segments BAR has not presented and in the samples not yet accepted. A clean
tick moves items along this line and never makes or loses one, whatever the consumer does; with a consumer that is
always ready the line is empty after two ticks per segment and two more. -/

namespace Sys2Proof.Machine

/-! ### The items still to come -/

/-- The packet of a sample, as `qnt_out` carries it (R266). -/
def packet (c : Config) (data : Nat) : List Item :=
  (List.range c.N).map fun i => ⟨packetValue c data i, i == 0, i == c.N - 1⟩

/-- The items of the segments BAR has not presented yet. -/
def segmentsLeft (c : Config) (b : Bar) : List Item := (packet c b.data).drop b.idx

/-- The packets of the samples in the queue of `bar_in`. -/
def packetsQueued (c : Config) (q : List Item) : List Item := q.flatMap fun i => packet c (storeU c.IW i.payload)

/-- The item in QNT's output slot. -/
def slotItems (c : Config) (q : Qnt) : List Item := if q.ov then [⟨storeU c.OW q.v, q.f, q.l⟩] else []

/-- The item of QNT's deferred cycle (43_quantizer.md R236). -/
def deferredItems (c : Config) (q : Qnt) : List Item :=
  if q.state = qntMul then [⟨interpolate c q.mm q.md, q.mf, q.ml⟩] else []

/-- The items still to come out of `qnt_out`, in the order in which they will. -/
def itemsPending (s : State) : List Item :=
  slotItems s.cfg s.qnt ++ deferredItems s.cfg s.qnt ++
    (segmentsLeft s.cfg s.bar ++ packetsQueued s.cfg s.env.queues.barIn)

/-- The item that QNT takes from BAR in the coming tick, with its value (43_quantizer.md R232-R236). -/
def itemsAccepted (s : State) : List Item :=
  if qntAccept s then
    [⟨quantize s.cfg (barQ s).data (barQ s).lo (barQ s).hi (barQ s).mul, (barQ s).first, (barQ s).last⟩]
  else []

/-- The item that the consumer of `qnt_out` takes in the coming tick. -/
def itemsGiven (s : State) : List Item := if outXfer .qntOut s then [outItem .qntOut s] else []

theorem packet_length (c : Config) (data : Nat) : (packet c data).length = c.N := by simp [packet]

theorem segmentsLeft_of_idle {c : Config} {b : Bar} (h : b.idx = c.N) : segmentsLeft c b = [] := by
  rw [segmentsLeft, h, ← packet_length c b.data, List.drop_length]

theorem segmentsLeft_of_lt {c : Config} {b : Bar} (h : b.idx < c.N) :
    segmentsLeft c b =
      ⟨packetValue c b.data b.idx, b.idx == 0, b.idx == c.N - 1⟩ :: segmentsLeft c { b with idx := b.idx + 1 } := by
  have hlen : b.idx < (packet c b.data).length := (packet_length c b.data).symm ▸ h
  rw [segmentsLeft, List.drop_eq_getElem_cons hlen]
  simp [packet, segmentsLeft]

theorem itemsAccepted_of_not_accept {s : State} (h : ¬ qntAccept s = true) : itemsAccepted s = [] := if_neg h

/-- What QNT takes is the segment BAR presents. -/
theorem itemsAccepted_of_accept {s : State} (h : qntAccept s = true) :
    itemsAccepted s =
      [⟨packetValue s.cfg s.bar.data s.bar.idx, s.bar.idx == 0, s.bar.idx == s.cfg.N - 1⟩] := by
  rw [itemsAccepted, if_pos h, barQ_of_lt (barIdx_lt_of_qntAccept h), packetValue]

theorem items_logAfter_qntOut (s : State) :
    items (logAfter .qntOut s) = items s.env.taken.qntOut ++ itemsGiven s := by
  unfold logAfter logGiven itemsGiven
  split_ifs with hxfer
  · exact List.map_append
  · exact (List.append_nil _).symm

/-! ### One tick of BAR and QNT -/

section Step
variable {s u : State} (h : step s = .next u) (hnone : u.fault = none)
include h hnone

/-- A clean tick commits what the units executed. -/
theorem cleanTick_of_step : CleanTick s ∧ u = endTick s (commit s (unitState s)) := by
  obtain ⟨-, ⟨f, rfl⟩ | hclean⟩ := step_next_cases h
  · exact absurd hnone (Option.some_ne_none f)
  · exact hclean

theorem bar_of_step : ∃ i r, selected .bar s = some i ∧ exec i s = .next r ∧ u.bar = r.bar := by
  obtain ⟨hclean, rfl⟩ := cleanTick_of_step h hnone
  obtain ⟨i, hsel, hexec, -⟩ := hclean.executed .bar
  exact ⟨i, _, hsel, hexec, rfl⟩

theorem qnt_of_step : ∃ i r, selected .qnt s = some i ∧ exec i s = .next r ∧ u.qnt = r.qnt := by
  obtain ⟨hclean, rfl⟩ := cleanTick_of_step h hnone
  obtain ⟨i, hsel, hexec, -⟩ := hclean.executed .qnt
  exact ⟨i, _, hsel, hexec, rfl⟩

theorem barQueue_of_step : u.env.queues.barIn = queueAfter .barIn s :=
  (transfersFollowTheHandshake s u h hnone).1 .barIn

theorem qntLog_of_step : u.env.taken.qntOut = logAfter .qntOut s :=
  (transfersFollowTheHandshake s u h hnone).2 .qntOut

/-- A tick leaves a script without a raw trace, and its sinks as they are. -/
theorem script_of_step (htrace : s.env.trace = []) : u.env.trace = [] ∧ u.env.sinks = s.env.sinks := by
  obtain ⟨-, rfl⟩ := cleanTick_of_step h hnone
  exact ⟨congrArg List.tail htrace, rfl⟩

end Step

/-! ### BAR -/

/-- What a tick does to BAR and to a scripted queue of `bar_in`: the four operations of R262-R265. -/
inductive BarTick (s u : State) : Prop
  | accept (sample : Item) (idle : s.bar.idx = s.cfg.N)
      (queue : s.env.queues.barIn = sample :: u.env.queues.barIn)
      (bar : u.bar = ⟨0, storeU s.cfg.IW sample.payload⟩)
  | waitin (idle : s.bar.idx = s.cfg.N) (empty : s.env.queues.barIn = [])
      (queue : u.env.queues.barIn = s.env.queues.barIn) (bar : u.bar = s.bar)
  | present (accepted : qntAccept s = true) (queue : u.env.queues.barIn = s.env.queues.barIn)
      (bar : u.bar = { s.bar with idx := s.bar.idx + 1 })
  | stall (busy : s.bar.idx < s.cfg.N) (notReady : ¬ qntInReady s = true)
      (queue : u.env.queues.barIn = s.env.queues.barIn) (bar : u.bar = s.bar)

theorem inValid_iff_of_scripted {s : State} (htrace : s.env.trace = []) (p : InPort) :
    inValid p s = true ↔ s.env.queues.get p ≠ [] := by
  rw [inValid, offer_of_scripted htrace]
  cases s.env.queues.get p <;> simp [queueOffer]

theorem inItem_payload_of_head {s : State} (htrace : s.env.trace = []) {p : InPort} {x : Item} {q : List Item}
    (hqueue : s.env.queues.get p = x :: q) : (inItem p s).payload = storeU (p.width s.cfg) x.payload := by
  rw [inItem, offer_of_scripted htrace, hqueue]
  rfl

theorem qntAccept_iff (s : State) : qntAccept s = true ↔ s.bar.idx < s.cfg.N ∧ qntInReady s = true := by
  simp [qntAccept, barQValid]

theorem not_qntAccept_of_idle {s : State} (h : s.bar.idx = s.cfg.N) : ¬ qntAccept s = true :=
  fun haccept => (barIdx_lt_of_qntAccept haccept).ne h

theorem not_qntAccept_of_not_ready {s : State} (h : ¬ qntInReady s = true) : ¬ qntAccept s = true :=
  fun haccept => h ((qntAccept_iff s).mp haccept).2

theorem barTick_of_step {s u : State} (htrace : s.env.trace = []) (h : step s = .next u) (hnone : u.fault = none) :
    BarTick s u := by
  have hqueue := barQueue_of_step h hnone
  have hstays (hbusy : s.bar.idx ≠ s.cfg.N) : u.env.queues.barIn = s.env.queues.barIn :=
    hqueue.trans (queueAfter_of_not_ready (p := .barIn) (mt eq_of_beq hbusy)).symm
  obtain ⟨i, r, hsel, hexec, hbar⟩ := bar_of_step h hnone
  rw [selected_bar] at hsel
  split_ifs at hsel with hidle hvalid hbusy hready <;> cases hsel
  · -- ACCEPT
    obtain ⟨x, q, hhead⟩ := List.exists_cons_of_ne_nil ((inValid_iff_of_scripted htrace .barIn).mp hvalid)
    have htaken : u.env.queues.barIn = q := by
      have hxfer : inXfer .barIn s = true := by simp [inXfer, inReady, barInReady, hidle, hvalid]
      rw [hqueue, queueAfter, if_pos hxfer, queueTaken, if_pos htrace, hhead, List.tail_cons]
    obtain rfl := Host.Outcome.next.inj hexec
    refine .accept x hidle (htaken ▸ hhead) (hbar.trans ?_)
    exact congrArg (Bar.mk 0) (inItem_payload_of_head htrace hhead)
  · -- WAITIN
    obtain rfl := Host.Outcome.next.inj hexec
    have hempty : s.env.queues.barIn = [] := not_not.mp (mt (inValid_iff_of_scripted htrace .barIn).mpr hvalid)
    exact .waitin hidle hempty (hqueue.trans (queueAfter_of_not_valid hvalid).symm) hbar
  · -- PRESENT
    have hnext := ((barSequencesSegments s).1 hbusy).2
    obtain rfl := Host.Outcome.next.inj (hnext.symm.trans hexec)
    exact .present ((qntAccept_iff s).mpr ⟨hbusy, hready⟩) (hstays hidle) hbar
  · -- STALL
    obtain rfl := Host.Outcome.next.inj hexec
    exact .stall hbusy hready (hstays hidle) hbar

/-- BAR passes the item QNT takes, and keeps the others in their order. -/
theorem BarTick.keeps_items {s u : State} (h : BarTick s u) :
    itemsAccepted s ++ (segmentsLeft s.cfg u.bar ++ packetsQueued s.cfg u.env.queues.barIn) =
      segmentsLeft s.cfg s.bar ++ packetsQueued s.cfg s.env.queues.barIn := by
  have hidle (hidx : s.bar.idx = s.cfg.N) : itemsAccepted s = [] :=
    itemsAccepted_of_not_accept (not_qntAccept_of_idle hidx)
  cases h with
  | accept sample idle queue bar =>
    rw [hidle idle, bar, queue, segmentsLeft_of_idle idle]
    rfl
  | waitin idle empty queue bar => rw [hidle idle, bar, queue, List.nil_append]
  | present accepted queue bar =>
    rw [itemsAccepted_of_accept accepted, bar, queue, segmentsLeft_of_lt (barIdx_lt_of_qntAccept accepted)]
    rfl
  | stall busy notReady queue bar =>
    rw [itemsAccepted_of_not_accept (not_qntAccept_of_not_ready notReady), bar, queue, List.nil_append]

/-! ### QNT -/

theorem deferredItems_of_idle {c : Config} {q : Qnt} (h : q.state = qntIdle) : deferredItems c q = [] :=
  if_neg (h ▸ by decide)

theorem slotItems_of_empty {c : Config} {q : Qnt} (h : q.ov = false) : slotItems c q = [] :=
  if_neg (ne_true_of_eq_false h)

theorem itemsGiven_of_empty {s : State} (h : s.qnt.ov = false) : itemsGiven s = [] :=
  if_neg fun hx => absurd ((Bool.and_eq_true_iff.mp hx).1.symm.trans h) (by decide)

/-- A slot that is free for a new item has given its old one. -/
theorem itemsGiven_of_slotFree {s : State} (h : qntSlotFree s = true) : itemsGiven s = slotItems s.cfg s.qnt := by
  cases hov : s.qnt.ov with
  | false => rw [itemsGiven_of_empty hov, slotItems_of_empty hov]
  | true =>
    have hready : outReady .qntOut s = true := by simpa [qntSlotFree, slotFree, hov] using h
    simp [itemsGiven, slotItems, outXfer, outValid, outItem, hov, hready]

/-- What the drained slot no longer holds, the consumer has (43_quantizer.md R237). -/
theorem itemsGiven_append_drained (s : State) :
    itemsGiven s ++ slotItems s.cfg { s.qnt with ov := s.qnt.ov && !outReady .qntOut s } = slotItems s.cfg s.qnt := by
  cases hready : outReady .qntOut s with
  | true =>
    have hfree : qntSlotFree s = true := by simp [qntSlotFree, slotFree, hready]
    rw [itemsGiven_of_slotFree hfree]
    simp [slotItems]
  | false => simp [itemsGiven, slotItems, outXfer, hready]

theorem qntSlotFree_of_qntAccept {s : State} (h : qntAccept s = true) : qntSlotFree s = true :=
  (Bool.and_eq_true_iff.mp ((qntAccept_iff s).mp h).2).2

theorem storeU_quantize (c : Config) (d lo hi mul : Nat) :
    storeU c.OW (quantize c d lo hi mul) = quantize c d lo hi mul :=
  storeU_of_inU (quantize_le_outputMax.trans_lt (outputMax_inU c))

theorem qnt_keeps_cfg {s r : State} {i : Instr} (hsel : selected .qnt s = some i) (he : exec i s = .next r) :
    r.cfg = s.cfg := by
  rw [selected_qnt] at hsel
  split_ifs at hsel <;> cases hsel
  · -- MUL
    change execQntMul s = _ at he
    rw [execQntMul] at he
    split_ifs at he <;> obtain rfl := Host.Outcome.next.inj he <;> rfl
  all_goals
    obtain rfl := Host.Outcome.next.inj he
    exact deliver_cfg .qntOut s

/-- An accepted item is alone in QNT after the tick, with its value: in the slot, or in the deferred cycle. -/
theorem qnt_items_of_accept {s r : State} {i : Instr} (hs : Inv s) (haccept : qntAccept s = true)
    (hsel : selected .qnt s = some i) (he : exec i s = .next r) :
    slotItems s.cfg r.qnt ++ deferredItems s.cfg r.qnt = itemsAccepted s := by
  obtain ⟨t, ht, hvalue⟩ := qntComputesTheItemsValue s i hs haccept hsel
  obtain rfl := Host.Outcome.next.inj (ht.symm.trans he)
  rw [itemsAccepted, if_pos haccept]
  obtain ⟨hidle, hov, hf, hl, hv⟩ | ⟨hmul, hov, u, hu, -, hf, hl, hv⟩ := hvalue
  · -- emitted in the accepting tick
    rw [deferredItems_of_idle hidle, slotItems, if_pos hov, hf, hl, hv, storeU_quantize]
    rfl
  · -- deferred
    obtain rfl := Host.Outcome.next.inj (((qntMultiplies t hmul).1 hov).symm.trans hu)
    have hcfg := qnt_keeps_cfg hsel he
    rw [slotItems_of_empty hov, deferredItems, if_pos hmul, ← hf, ← hl, ← hv, interpolate_eq, hcfg]
    rfl

/-- Without an accept the slot drains, or MUL loads it with the deferred item, alone in QNT before (10_state.md R29). -/
theorem qnt_of_not_accept {s r : State} {i : Instr} (hs : Inv s) (hno : ¬ qntAccept s = true)
    (hsel : selected .qnt s = some i) (he : exec i s = .next r) :
    (s.qnt.state = qntMul ∧ s.qnt.ov = false ∧
        r.qnt = { s.qnt with
          v := interpolate s.cfg s.qnt.mm s.qnt.md, f := s.qnt.mf, l := s.qnt.ml, ov := true, state := qntIdle }) ∨
      (s.qnt.state = qntIdle ∧ r.qnt = { s.qnt with ov := s.qnt.ov && !outReady .qntOut s }) := by
  obtain ⟨-, -, -, ⟨-, -, -, hslot⟩, -⟩ := hs
  rw [selected_qnt, if_neg hno] at hsel
  split_ifs at hsel with hmul <;> cases hsel
  · -- MUL
    have hov : s.qnt.ov = false := by simpa [okQntSlot, hmul] using hslot
    change execQntMul s = _ at he
    rw [execQntMul, if_neg (ne_true_of_eq_false hov)] at he
    obtain rfl := Host.Outcome.next.inj he
    exact .inl ⟨hmul, hov, rfl⟩
  · -- NOACC
    obtain rfl := Host.Outcome.next.inj he
    exact .inr ⟨qntIdle_of_ne_mul _ hmul, rfl⟩

/-- QNT gives its items in their order, and the accepted one last. -/
theorem qnt_keeps_items {s r : State} {i : Instr} (hs : Inv s) (hsel : selected .qnt s = some i)
    (he : exec i s = .next r) :
    itemsGiven s ++ (slotItems s.cfg r.qnt ++ deferredItems s.cfg r.qnt) =
      slotItems s.cfg s.qnt ++ deferredItems s.cfg s.qnt ++ itemsAccepted s := by
  by_cases haccept : qntAccept s = true
  · rw [qnt_items_of_accept hs haccept hsel he, itemsGiven_of_slotFree (qntSlotFree_of_qntAccept haccept),
      deferredItems_of_idle (qntIdle_of_qntAccept haccept), List.append_nil]
  rw [itemsAccepted_of_not_accept haccept, List.append_nil]
  obtain ⟨hmul, hov, hr⟩ | ⟨hidle, hr⟩ := qnt_of_not_accept hs haccept hsel he
  · -- MUL
    rw [itemsGiven_of_empty hov, slotItems_of_empty hov, hr]
    simp [slotItems, deferredItems, hmul, interpolate]
  · -- NOACC
    have hidle' : r.qnt.state = qntIdle := by rw [hr, hidle]
    rw [deferredItems_of_idle hidle, deferredItems_of_idle hidle', hr, List.append_nil, List.append_nil,
      itemsGiven_append_drained]

/-! ### The line of items -/

/-- A clean tick gives the head of the line to the consumer, or no item, and the rest of it stays. -/
theorem step_keeps_items {s u : State} (hs : Inv s) (htrace : s.env.trace = []) (h : step s = .next u)
    (hnone : u.fault = none) :
    items u.env.taken.qntOut ++ itemsPending u = items s.env.taken.qntOut ++ itemsPending s := by
  obtain ⟨i, r, hsel, hexec, hqnt⟩ := qnt_of_step h hnone
  have hitems := qnt_keeps_items hs hsel hexec
  have hbar := (barTick_of_step htrace h hnone).keeps_items
  calc items u.env.taken.qntOut ++ itemsPending u
      = items s.env.taken.qntOut ++
          (itemsGiven s ++ (slotItems s.cfg r.qnt ++ deferredItems s.cfg r.qnt)) ++
          (segmentsLeft s.cfg u.bar ++ packetsQueued s.cfg u.env.queues.barIn) := by
        rw [itemsPending, stepKeepsTheConfiguration s u h, qntLog_of_step h hnone, items_logAfter_qntOut, hqnt]
        simp only [List.append_assoc]
    _ = items s.env.taken.qntOut ++ (slotItems s.cfg s.qnt ++ deferredItems s.cfg s.qnt) ++
          (itemsAccepted s ++ (segmentsLeft s.cfg u.bar ++ packetsQueued s.cfg u.env.queues.barIn)) := by
        rw [hitems]
        simp only [List.append_assoc]
    _ = items s.env.taken.qntOut ++ itemsPending s := by
        rw [hbar, itemsPending, List.append_assoc]

theorem cleanRun_keeps_items {n : Nat} {s t : State} (hs : Inv s) (htrace : s.env.trace = [])
    (h : cleanRun n s = some t) :
    items t.env.taken.qntOut ++ itemsPending t = items s.env.taken.qntOut ++ itemsPending s := by
  induction n generalizing s with
  | zero => rw [Option.some.inj h]
  | succ n ih =>
    obtain ⟨u, hstep, hnone, hrun⟩ := exists_step_of_cleanRun_succ h
    have hu := stepKeepsTheInvariant s u hs hstep
    exact (ih hu (script_of_step hstep hnone htrace).1 hrun).trans (step_keeps_items hs htrace hstep hnone)

/-! ### The ticks it takes -/

/-- An upper bound on the ticks until BAR and QNT are at rest but for QNT's slot: a tick for each sample to accept, two
for each segment to present, one for a deferred cycle. -/
def ticksLeft (s : State) : Nat :=
  (2 * s.cfg.N + 1) * s.env.queues.barIn.length + 2 * (s.cfg.N - s.bar.idx) +
    if s.qnt.state = qntMul then 1 else 0

theorem rest_of_ticksLeft_eq_zero {s : State} (hs : Inv s) (h : ticksLeft s = 0) :
    s.env.queues.barIn = [] ∧ s.bar.idx = s.cfg.N ∧ s.qnt.state = qntIdle := by
  obtain ⟨-, -, -, -, ⟨hle, -⟩, -⟩ := hs
  simp only [ticksLeft, Nat.add_eq_zero_iff, Nat.mul_eq_zero, List.length_eq_zero_iff] at h
  obtain ⟨⟨hqueue, hidx⟩, hqnt⟩ := h
  refine ⟨hqueue.resolve_left (by omega), by omega, qntIdle_of_ne_mul _ fun hmul => ?_⟩
  rw [if_pos hmul] at hqnt
  exact one_ne_zero hqnt

/-- A good state whose inputs are scripted and whose consumer of `qnt_out` is always ready. -/
structure Flowing (s : State) : Prop where
  inv : Inv s
  trace : s.env.trace = []
  sink : s.env.sinks.qntOut = .ready

theorem Flowing.after_step {s u : State} (hs : Flowing s) (h : step s = .next u) (hnone : u.fault = none) :
    Flowing u := by
  obtain ⟨htrace, hsinks⟩ := script_of_step h hnone hs.trace
  exact ⟨stepKeepsTheInvariant s u hs.inv h, htrace, hsinks ▸ hs.sink⟩

theorem Flowing.qntOut_ready {s : State} (hs : Flowing s) : outReady .qntOut s = true := by
  simp [outReady, rawInputs, hs.trace, hs.sink, OutPorts.get, Sink.readyAt]

/-- With its consumer ready, QNT in `IDLE` accepts whatever BAR presents. -/
theorem Flowing.qntMul_of_not_ready {s : State} (hs : Flowing s) (h : ¬ qntInReady s = true) :
    s.qnt.state = qntMul := by
  by_contra hne
  exact h (by simp [qntInReady, qntSlotFree, slotFree, hs.qntOut_ready, qntIdle_of_ne_mul _ hne])

theorem qntIdle_of_step_not_accept {s u : State} (hs : Inv s) (h : step s = .next u) (hnone : u.fault = none)
    (hno : ¬ qntAccept s = true) : u.qnt.state = qntIdle := by
  obtain ⟨i, r, hsel, hexec, hqnt⟩ := qnt_of_step h hnone
  rw [hqnt]
  obtain ⟨-, -, hr⟩ | ⟨hidle, hr⟩ := qnt_of_not_accept hs hno hsel hexec
  · rw [hr]
  · rw [hr]
    exact hidle

/-- Each tick takes one off the bound. -/
theorem Flowing.ticksLeft_step {s u : State} (hs : Flowing s) (h : step s = .next u) (hnone : u.fault = none) :
    ticksLeft u ≤ ticksLeft s - 1 := by
  have hcfg := stepKeepsTheConfiguration s u h
  have hidle := qntIdle_of_step_not_accept hs.inv h hnone
  unfold ticksLeft
  rw [hcfg]
  cases barTick_of_step hs.trace h hnone with
  | accept sample idle queue bar =>
    rw [hidle (not_qntAccept_of_idle idle), queue, bar, List.length_cons, Nat.mul_succ, if_neg (by decide)]
    dsimp only
    omega
  | waitin idle empty queue bar =>
    rw [hidle (not_qntAccept_of_idle idle), queue, empty, bar, idle]
    simp
  | present accepted queue bar =>
    have hbusy := barIdx_lt_of_qntAccept accepted
    rw [queue, bar]
    dsimp only
    split_ifs <;> omega
  | stall busy notReady queue bar =>
    rw [hidle (not_qntAccept_of_not_ready notReady), queue, bar, hs.qntMul_of_not_ready notReady]
    simp

/-- With no tick left the slot alone may be full, and the next tick empties it. -/
theorem Flowing.itemsPending_step_of_rest {s u : State} (hs : Flowing s) (h : step s = .next u)
    (hnone : u.fault = none) (hrest : ticksLeft s = 0) : itemsPending u = [] := by
  obtain ⟨hempty, hidx, hidle⟩ := rest_of_ticksLeft_eq_zero hs.inv hrest
  have hno := not_qntAccept_of_idle hidx
  have hbar := (barTick_of_step hs.trace h hnone).keeps_items
  obtain ⟨i, r, hsel, hexec, hqnt⟩ := qnt_of_step h hnone
  rw [itemsAccepted_of_not_accept hno, List.nil_append, segmentsLeft_of_idle hidx, hempty] at hbar
  obtain ⟨hmul, -⟩ | ⟨-, hr⟩ := qnt_of_not_accept hs.inv hno hsel hexec
  · exact absurd (hmul.symm.trans hidle) (by decide)
  have hov : r.qnt.ov = false := by rw [hr, hs.qntOut_ready, Bool.not_true, Bool.and_false]
  have hstate : r.qnt.state = qntIdle := by rw [hr, hidle]
  rw [itemsPending, stepKeepsTheConfiguration s u h, hbar, hqnt, slotItems_of_empty hov, deferredItems_of_idle hstate]
  rfl

/-- After that many ticks and one more nothing is still to come. -/
theorem Flowing.itemsPending_after_run {n : Nat} {s t : State} (hs : Flowing s) (h : cleanRun (n + 1) s = some t)
    (hn : ticksLeft s ≤ n) : itemsPending t = [] := by
  induction n generalizing s with
  | zero =>
    obtain ⟨u, hstep, hnone, hend⟩ := exists_step_of_cleanRun_succ h
    obtain rfl := Option.some.inj hend
    exact hs.itemsPending_step_of_rest hstep hnone (Nat.le_zero.mp hn)
  | succ n ih =>
    obtain ⟨u, hstep, hnone, hrun⟩ := exists_step_of_cleanRun_succ h
    have hless := hs.ticksLeft_step hstep hnone
    exact ih (hs.after_step hstep hnone) hrun (by omega)

/-- Settles O32: at first only the sample's packet is to come, the run moves the line into the log, and leaves none. -/
theorem sampleGivesOnePacket : Obligations.SampleGivesOnePacket := by
  intro s t sample n hs htrace hqueue hsink hidx hidle hov hn hrun
  have hstart : itemsPending s = packet s.cfg (storeU s.cfg.IW sample.payload) := by
    rw [itemsPending, slotItems_of_empty hov, deferredItems_of_idle hidle, segmentsLeft_of_idle hidx, hqueue]
    exact List.append_nil _
  have hticks : ticksLeft s = 2 * s.cfg.N + 1 := by simp [ticksLeft, hqueue, hidx, hidle]
  obtain ⟨m, rfl⟩ : ∃ m, n = m + 1 := ⟨n - 1, by omega⟩
  have hflow : Flowing s := ⟨hs, htrace, hsink⟩
  have hend : itemsPending t = [] := hflow.itemsPending_after_run hrun (by omega)
  have hline := cleanRun_keeps_items hs htrace hrun
  rwa [hend, hstart, List.append_nil] at hline

end Sys2Proof.Machine
end

section
/-! PROOF. The statements of 45_key_serializer.md about one operation. The invariant keeps KEY's registers within `K` bits,
so its stores lose no bit and the complement of R295 reaches every bit of `diff`. -/

namespace Sys2Proof.Machine

/-! ### The operands -/

/-- A set bit of a `w`-bit value is one of its `w` bits. -/
theorem lt_of_testBit_of_inU {w x i : Nat} (hx : inU w x) (hbit : x.testBit i = true) : i < w :=
  (Nat.pow_lt_pow_iff_right (by norm_num : 1 < 2)).mp (lt_of_le_of_lt (Nat.ge_two_pow_of_testBit hbit) hx)

/-- `~x` on `w` bits (00_scope.md R10). -/
theorem complement_testBit {w x : Nat} (hx : inU w x) (i : Nat) :
    (complement w x).testBit i = (decide (i < w) && !x.testBit i) := by
  rw [complement, Nat.sub_sub, Nat.add_comm 1 x, Nat.testBit_two_pow_sub_succ hx]

/-- `y & ~x` clears the bits of `x` in `y`. -/
theorem and_complement_testBit {w x y : Nat} (hx : inU w x) (hy : inU w y) (i : Nat) :
    (y &&& complement w x).testBit i = (y.testBit i && !x.testBit i) := by
  rw [Nat.testBit_and, complement_testBit hx]
  cases hbit : y.testBit i with
  | false => rfl
  | true => simp [lt_of_testBit_of_inU hy hbit]

/-- The event that KEY presents (45_key_serializer.md R291). -/
theorem outItem_keyOut (s : State) :
    outItem .keyOut s =
      ⟨packEvent s.cfg s.key.mask (decide (s.key.mask &&& s.key.prev ≠ 0)), s.key.first,
        decide (s.key.diff = s.key.mask)⟩ := by
  simp only [outItem, keyOutLevel, keyOutLast, bne, Bool.beq_eq_decide_eq, ne_eq, decide_not]

/-! ### The statements -/

/-- Settles O33: the XOR of two `K`-bit snapshots fits `diff`, and an offer to an idle KEY is a transfer. -/
theorem keyAcceptsAndWaits : Obligations.KeyAcceptsAndWaits := by
  refine fun s => ⟨fun hs hidle hvalid => ?_, rfl, rfl, rfl⟩
  obtain ⟨-, -, -, -, -, ⟨-, hprev, -⟩, -⟩ := hs
  have hxfer : inXfer .keyIn s = true := by simp [inXfer, inReady, keyInReady, hidle, hvalid]
  have hsnap : inU s.cfg.K (keySnap s) := inItem_payload_inU .keyIn s
  change execKeyAccept s = _
  rw [execKeyAccept, storeU_of_inU (Nat.xor_lt_two_pow hprev hsnap), takeIn_spec, if_pos hxfer]
  rfl

/-- Settles O34: `diff & -diff` is the power of two of the lowest set bit. -/
theorem keyIsolatesTheLowestBit : Obligations.KeyIsolatesTheLowestBit := by
  intro s hs _ hdiff
  obtain ⟨-, -, -, -, -, ⟨-, -, hfits, -⟩, -⟩ := hs
  obtain ⟨j, hj, hset, hlow, hmask⟩ := lowestSet_eq_two_pow hdiff hfits
  refine ⟨j, hj, hset, hlow, ?_⟩
  change execKeyIsolate s = _
  rw [execKeyIsolate, hmask]
  rfl

/-- Settles O35: in `SEND` the event is offered, so the consumer's `ready` makes the transfer. -/
theorem keySendReportsOneBit : Obligations.KeySendReportsOneBit := by
  intro s hs hsend hready
  obtain ⟨-, -, -, -, -, ⟨-, -, hdiff, hmask, -⟩, -⟩ := hs
  have hxfer : outXfer .keyOut s = true := by simp [outXfer, outValid, keyOutValid, hsend, hready]
  refine ⟨s.key.diff &&& complement s.cfg.K s.key.mask, ?_, and_complement_testBit hmask hdiff⟩
  change execKeySend s = _
  rw [execKeySend, deliver_spec, logAfter, if_pos hxfer, logGiven, outItem_keyOut]
  rfl

end Sys2Proof.Machine
end

section
/-! PROOF. One run of events per snapshot (45_key_serializer.md R298). The events still to come are read off the set bits
of `diff`: ISOLATE and SEND report the least of them and clear it, so each costs two ticks, and accepting the snapshot and
finding `diff = 0` cost one each. -/

namespace Sys2Proof.Machine

/-! ### The bits of a mask -/

/-- The set bits of a `w`-bit value, in ascending order. -/
def setBits (w x : Nat) : List Nat := (List.range w).filter fun i => x.testBit i

theorem mem_setBits {w x i : Nat} : i ∈ setBits w x ↔ i < w ∧ x.testBit i = true := by simp [setBits]

theorem setBits_pairwise_lt (w x : Nat) : (setBits w x).Pairwise (· < ·) := List.pairwise_lt_range.filter _

theorem length_setBits (w x : Nat) : (setBits w x).length = popcount w x := List.countP_eq_length_filter.symm

theorem setBits_zero (w : Nat) : setBits w 0 = [] := by simp [setBits]

section Lowest
variable {w x y j : Nat} (hset : x.testBit j = true)
  (hclears : ∀ i, y.testBit i = (x.testBit i && !(2 ^ j).testBit i))
include hset hclears

/-- Clearing the lowest set bit takes it off the head of the list. -/
theorem setBits_eq_cons_of_lowest (hj : j < w) (hlow : ∀ i, i < j → x.testBit i = false) :
    setBits w x = j :: setBits w y := by
  have hrest (i : Nat) : i ∈ setBits w y ↔ i ∈ setBits w x ∧ i ≠ j := by
    simp [mem_setBits, hclears, Nat.testBit_two_pow, and_assoc, ne_comm]
  have habove : ∀ i ∈ setBits w y, j < i := fun i hi => by
    obtain ⟨hmem, hne⟩ := (hrest i).mp hi
    obtain ⟨-, hbit⟩ := mem_setBits.mp hmem
    have hle : ¬ i < j := fun hlt => by simp [hlow i hlt] at hbit
    omega
  refine (setBits_pairwise_lt w x).eq_of_mem_iff (.cons habove (setBits_pairwise_lt w y)) fun i => ?_
  rw [List.mem_cons, hrest]
  by_cases hij : i = j
  · simp [hij, mem_setBits, hj, hset]
  · simp [hij]

/-- It is the last event when nothing is left after it: `diff = mask` (R291). -/
theorem eq_two_pow_iff_cleared : x = 2 ^ j ↔ y = 0 := by
  constructor
  · rintro rfl
    exact Nat.eq_of_testBit_eq fun i => by simp [hclears]
  · rintro rfl
    refine Nat.eq_of_testBit_eq fun i => ?_
    have hi := hclears i
    by_cases hij : j = i
    · simp [← hij, hset]
    · simpa [Nat.testBit_two_pow, hij] using hi

end Lowest

theorem setBits_eq_nil_iff {w x : Nat} (hx : inU w x) : setBits w x = [] ↔ x = 0 := by
  refine ⟨fun hnil => Nat.eq_of_testBit_eq fun i => ?_, fun h => h ▸ setBits_zero w⟩
  rw [Nat.zero_testBit, ← Bool.not_eq_true]
  intro hbit
  have hmem : i ∈ setBits w x := mem_setBits.mpr ⟨lt_of_testBit_of_inU hx hbit, hbit⟩
  simp [hnil] at hmem

/-! ### The events of a snapshot -/

/-- The events that report the listed bits of a snapshot, one after the other: `first` is given to the first of them, the
others do not have it. -/
def eventRun (c : Config) (snap : Nat) : Bool → List Nat → List Item
  | _, [] => []
  | first, j :: js => ⟨packEvent c (2 ^ j) (snap.testBit j), first, js.isEmpty⟩ :: eventRun c snap false js

/-- Where no bit is listed twice, an event's framing says whether its bit is the head or the end of the list. -/
theorem eventRun_eq_map (c : Config) (snap : Nat) (first : Bool) {bits : List Nat} (h : bits.Nodup) :
    eventRun c snap first bits =
      bits.map fun j =>
        ⟨packEvent c (2 ^ j) (snap.testBit j), first && bits.head? == some j, bits.getLast? == some j⟩ := by
  induction bits generalizing first with
  | nil => rfl
  | cons j js ih =>
    obtain ⟨hj, hjs⟩ := List.nodup_cons.mp h
    rw [eventRun, ih false hjs, List.map_cons]
    cases hlast : js.getLast? with
    | none =>
      obtain rfl := List.getLast?_eq_none_iff.mp hlast
      simp
    | some x =>
      have hne : x ≠ j := ne_of_mem_of_not_mem (List.mem_of_getLast? hlast) hj
      have hother : ∀ i ∈ js, j ≠ i := fun i hi => (ne_of_mem_of_not_mem hi hj).symm
      have hnil : js ≠ [] := by rintro rfl; cases hlast
      simpa [List.getLast?_cons, hlast, beq_false_of_ne hne, hnil] using fun i hi _ => hother i hi

theorem toggleEvents_eq_eventRun (c : Config) (s0 s1 : Nat) :
    toggleEvents c s0 s1 = eventRun c s1 true (setBits c.K (s0 ^^^ s1)) := by
  rw [eventRun_eq_map c s1 true (setBits_pairwise_lt _ _).nodup]
  rfl

/-! ### The ticks of a run -/

/-- A good state whose inputs are scripted and whose consumer of `key_out` is always ready. -/
structure KeyServed (s : State) : Prop where
  inv : Inv s
  trace : s.env.trace = []
  sink : s.env.sinks.keyOut = .ready

theorem KeyServed.keyOut_ready {s : State} (hs : KeyServed s) : outReady .keyOut s = true := by
  simp [outReady, rawInputs, hs.trace, hs.sink, OutPorts.get, Sink.readyAt]

theorem KeyServed.diff_inU {s : State} (hs : KeyServed s) : inU s.cfg.K s.key.diff := by
  obtain ⟨-, -, -, -, -, ⟨-, -, hdiff, -⟩, -⟩ := hs.inv
  exact hdiff

/-- The first tick of a clean run leaves KEY's registers, its queue and its log as its own operation does, whatever the
other units do. -/
theorem KeyServed.first_tick {k : Nat} {s r t : State} {i : Instr} (hs : KeyServed s)
    (hsel : selected .key s = some i) (he : exec i s = .next r) (h : cleanRun (k + 1) s = some t) :
    ∃ u, KeyServed u ∧ u.cfg = s.cfg ∧ u.key = r.key ∧ u.env.queues.keyIn = r.env.queues.keyIn ∧
      u.env.taken.keyOut = r.env.taken.keyOut ∧ cleanRun k u = some t := by
  obtain ⟨u, hstep, hnone, hrun⟩ := exists_step_of_cleanRun_succ h
  obtain ⟨htrace, hsinks⟩ := script_of_step hstep hnone hs.trace
  have hu : KeyServed u := ⟨stepKeepsTheInvariant s u hs.inv hstep, htrace, hsinks ▸ hs.sink⟩
  obtain ⟨-, rfl⟩ := cleanTick_of_step hstep hnone
  obtain rfl := unitState_of_exec hsel he
  exact ⟨_, hu, rfl, rfl, rfl, rfl, hrun⟩

/-- KEY has reported bit `j` between two states in `CALC`. -/
structure EventReported (s u : State) (j : Nat) : Prop where
  cfg : u.cfg = s.cfg
  state : u.key.state = keyCalc
  prev : u.key.prev = s.key.prev
  first : u.key.first = false
  bits : setBits s.cfg.K s.key.diff = j :: setBits s.cfg.K u.key.diff
  queue : u.env.queues.keyIn = s.env.queues.keyIn
  log : items u.env.taken.keyOut = items s.env.taken.keyOut ++
    [⟨packEvent s.cfg (2 ^ j) (s.key.prev.testBit j), s.key.first, (setBits s.cfg.K u.key.diff).isEmpty⟩]

/-- ISOLATE and SEND report the lowest bit of `diff`. -/
theorem KeyServed.reports_lowest_bit {k : Nat} {s t : State} (hs : KeyServed s) (hcalc : s.key.state = keyCalc)
    (hdiff : s.key.diff ≠ 0) (h : cleanRun (k + 2) s = some t) :
    ∃ u j, KeyServed u ∧ EventReported s u j ∧ cleanRun k u = some t := by
  -- ISOLATE
  obtain ⟨j, hj, hset, hlow, hisolate⟩ := keyIsolatesTheLowestBit s hs.inv hcalc hdiff
  obtain ⟨v, hv, hcfg, hkey, hqueue, hlog, h⟩ :=
    hs.first_tick (by simp [selected_key, hcalc, hdiff]) hisolate h
  have hsend : v.key.state = keySend := by rw [hkey]
  -- SEND
  obtain ⟨d, hexec, hclears⟩ := keySendReportsOneBit v hv.inv hsend hv.keyOut_ready
  obtain ⟨u, hu, hcfg', hkey', hqueue', hlog', h⟩ :=
    hv.first_tick (by simp [selected_key, hsend, hv.keyOut_ready]) hexec h
  have hdiff' : u.key.diff = d := by rw [hkey']
  rw [hkey, ← hdiff'] at hclears
  have hlast : decide (s.key.diff = 2 ^ j) = (setBits s.cfg.K u.key.diff).isEmpty := by
    rw [Bool.eq_iff_iff, decide_eq_true_iff, List.isEmpty_iff, ← hcfg, ← hcfg', setBits_eq_nil_iff hu.diff_inU]
    exact eq_two_pow_iff_cleared hset hclears
  have hreport : EventReported s u j :=
    { cfg := hcfg'.trans hcfg
      state := by rw [hkey']
      prev := by rw [hkey', hkey]
      first := by rw [hkey']
      bits := setBits_eq_cons_of_lowest hset hclears hj hlow
      queue := hqueue'.trans hqueue
      log := by
        rw [hlog', hcfg, hkey, hlog, items, List.map_append, ← hlast]
        simp [items, Nat.two_pow_and] }
  exact ⟨u, j, hu, hreport, h⟩

/-- From `CALC` the run reports every bit of `diff` and ends with the one tick of DONE. -/
theorem KeyServed.run_reports_bits {bits : List Nat} {s t : State} (hs : KeyServed s) (hcalc : s.key.state = keyCalc)
    (hbits : setBits s.cfg.K s.key.diff = bits) (h : cleanRun (2 * bits.length + 1) s = some t) :
    t.key.state = keyIdle ∧ t.key.prev = s.key.prev ∧ t.env.queues.keyIn = s.env.queues.keyIn ∧
      items t.env.taken.keyOut = items s.env.taken.keyOut ++ eventRun s.cfg s.key.prev s.key.first bits := by
  induction bits generalizing s with
  | nil =>
    have hdiff : s.key.diff = 0 := (setBits_eq_nil_iff hs.diff_inU).mp hbits
    obtain ⟨-, -, -, hdone⟩ := keyAcceptsAndWaits s
    obtain ⟨u, -, -, hkey, hqueue, hlog, hend⟩ := hs.first_tick (by simp [selected_key, hcalc, hdiff]) hdone h
    obtain rfl := Option.some.inj hend
    simp [hkey, hqueue, hlog, eventRun]
  | cons j js ih =>
    have hdiff : s.key.diff ≠ 0 := fun hzero => by simp [hzero, setBits_zero] at hbits
    obtain ⟨u, i, hu, hreport, hrun⟩ := hs.reports_lowest_bit hcalc hdiff h
    obtain ⟨rfl, hrest⟩ := List.cons.inj (hreport.bits.symm.trans hbits)
    obtain ⟨hidle, hprev, hqueue, hlog⟩ := ih hu hreport.state (by rw [hreport.cfg, hrest]) hrun
    refine ⟨hidle, hprev.trans hreport.prev, hqueue.trans hreport.queue, ?_⟩
    rw [hlog, hreport.log, hreport.cfg, hreport.prev, hreport.first, hrest, List.append_assoc]
    rfl

/-- Settles O36: the first tick accepts the snapshot, and the others report the bits in which it differs. -/
theorem snapshotGivesItsEvents : Obligations.SnapshotGivesItsEvents := by
  intro s t sample rest hinv htrace hqueue hsink hidle hrun
  have hs : KeyServed s := ⟨hinv, htrace, hsink⟩
  have hvalid : inValid .keyIn s = true := (inValid_iff_of_scripted htrace .keyIn).mpr (by simp [InPorts.get, hqueue])
  have hsnap : (inItem .keyIn s).payload = storeU s.cfg.K sample.payload := inItem_payload_of_head htrace hqueue
  obtain ⟨haccept, -⟩ := keyAcceptsAndWaits s
  obtain ⟨u, hu, hcfg, hkey, hrest, hlog, hrun⟩ :=
    hs.first_tick (by simp [selected_key, hidle, hvalid]) (haccept hinv hidle hvalid) hrun
  rw [hsnap] at hkey
  have hbits : setBits u.cfg.K u.key.diff = setBits s.cfg.K (s.key.prev ^^^ storeU s.cfg.K sample.payload) := by
    rw [hcfg, hkey]
  rw [← length_setBits] at hrun
  obtain ⟨hend, hprev, hkept, hevents⟩ := hu.run_reports_bits (by rw [hkey]) hbits hrun
  refine ⟨hend, by rw [hprev, hkey], ?_, ?_⟩
  · rw [hkept, hrest]
    simp [queueTaken, htrace, InPorts.get, hqueue]
  · rw [hevents, hlog, hcfg, hkey, toggleEvents_eq_eventRun]

end Sys2Proof.Machine
end

section
/-! PROOF. The statements of 46_selection.md about one operation. An accepted snapshot is a transfer on `ui_key_in`; a
free output slot passes on the frame it holds, if any. In a good state the indices, the LED address and the brightness
fit their fields, so no store loses a bit. -/

namespace Sys2Proof

/-! ### The LED ring of an accepted configuration -/

theorem Config.leds_le_two_pow_AW {c : Config} (h : c.wellFormed = true) : c.leds ≤ 2 ^ c.AW := by
  have hui := Config.passes_of_wellFormed h .uiRing
  simp only [Check.passes, Config.okUi, Bool.and_eq_true, decide_eq_true_eq] at hui
  obtain ⟨⟨⟨-, haddr⟩, -⟩, -⟩ := hui
  exact haddr

theorem Config.bright_lt_two_pow_CW {c : Config} (h : c.wellFormed = true) : c.bright < 2 ^ c.CW := by
  have hbright := Config.passes_of_wellFormed h .brightness
  simp only [Check.passes, Config.okBright, Bool.and_eq_true, decide_eq_true_eq] at hbright
  exact hbright.2

end Sys2Proof

namespace Sys2Proof.Machine

/-! ### The registers and the transfers written together -/

/-- UIK's registers on an accepted snapshot, which leaves its queue (R321). -/
theorem setUi_takeIn_of_uikAccept {s : State} (h : uikAccept s = true) (x : Ui) :
    (takeIn .uiKeyIn s).setUi x =
      { s with
        ui := x
        env := { s.env with queues := { s.env.queues with uiKeyIn := queueTaken .uiKeyIn s } } } := by
  have hxfer : inXfer .uiKeyIn s = true := h
  rw [takeIn_spec, if_pos hxfer]
  rfl

/-- UIO's registers, with the transfer of the frame the slot holds (R322). -/
theorem setUi_deliver_uiOut (s : State) (x : Ui) :
    (deliver .uiOut s).setUi x =
      { s with ui := x, env := { s.env with taken := { s.env.taken with uiOut := logAfter .uiOut s } } } := by
  rw [deliver_spec]
  rfl

theorem inXfer_uiPtIn {s : State} (hreq : uiRenderReq s = false) (hslot : uiSlotFree s = true)
    (hvalid : inValid .uiPtIn s = true) : inXfer .uiPtIn s = true := by
  simp [inXfer, inReady, uiPtReady, hreq, hslot, hvalid]

/-! ### The step down -/

theorem pred_mod_eq_ite {e n : Nat} (h : e < n) :
    (((e : Int) - 1 + n) % n).toNat = if e = 0 then n - 1 else e - 1 := by
  split_ifs with hzero
  · rw [Int.emod_eq_of_lt (by omega) (by omega)]
    omega
  · rw [Int.add_emod_right, Int.emod_eq_of_lt (by omega) (by omega)]
    omega

/-! ### The frames -/

theorem storeU_bright {c : Config} (h : c.wellFormed = true) : storeU c.CW c.bright = c.bright :=
  storeU_of_inU (Config.bright_lt_two_pow_CW h)

theorem wellFormed_of_inv {s : State} (h : Inv s) : s.cfg.wellFormed = true := by
  obtain ⟨hc, -⟩ := h
  exact hc

theorem led_lt_leds_of_inv {s : State} (h : Inv s) : s.ui.led < s.cfg.leds := by
  obtain ⟨-, -, -, -, -, -, -, hled, -⟩ := h
  exact (okUiLed_iff s).mp hled

/-- Every step of the sweep is an LED address (R330). -/
theorem inU_AW_of_lt_leds {c : Config} (h : c.wellFormed = true) {L : Nat} (hL : L < c.leds) : inU c.AW L :=
  lt_of_lt_of_le hL (Config.leds_le_two_pow_AW h)

/-- The frame of sweep step `led` (R330), no field of it cut. -/
theorem renderFrame_of_inv {s : State} (h : Inv s) :
    renderFrame s =
      ⟨s.ui.led, if s.ui.led = s.ui.channel then s.cfg.bright else 0,
        if s.ui.led = s.ui.edit then s.cfg.bright else 0, 0, decide (s.ui.led = 0),
        decide (s.ui.led = s.cfg.leds - 1)⟩ := by
  have hc := wellFormed_of_inv h
  have haddr := inU_AW_of_lt_leds hc (led_lt_leds_of_inv h)
  simp only [renderFrame, storeU_bright hc, storeU_of_inU haddr, Bool.beq_eq_decide_eq]

/-- Two adjacent fields make one. -/
theorem storeU_eq_add_field (p lo w : Nat) : storeU (lo + w) p = storeU lo p + field p lo w <<< lo := by
  rw [storeU, storeU, field, storeU, Nat.shiftRight_eq_div_pow, Nat.shiftLeft_eq, pow_add, Nat.mod_mul,
    Nat.mul_comm (2 ^ lo)]

theorem storeU_field (p lo w : Nat) : storeU w (field p lo w) = field p lo w := storeU_storeU _ _

theorem field_zero (p w : Nat) : field p 0 w = storeU w p := rfl

/-- A passed frame's fields packed again are the payload offered (R131, R334). -/
theorem packLed_ptFrame (s : State) :
    packLed s.cfg (ptFrame s).addr (ptFrame s).red (ptFrame s).green (ptFrame s).blue = (inItem .uiPtIn s).payload := by
  have hfits : inU (s.cfg.AW + s.cfg.CW + s.cfg.CW + s.cfg.CW) (inItem .uiPtIn s).payload := by
    have hwidth : s.cfg.AW + s.cfg.CW + s.cfg.CW + s.cfg.CW = InPort.uiPtIn.width s.cfg := by
      simp only [InPort.width]
      omega
    exact hwidth ▸ inItem_payload_inU .uiPtIn s
  have htwice : s.cfg.AW + 2 * s.cfg.CW = s.cfg.AW + s.cfg.CW + s.cfg.CW := by omega
  conv_rhs => rw [← storeU_of_inU hfits, storeU_eq_add_field, storeU_eq_add_field, storeU_eq_add_field]
  simp only [packLed, ptFrame, storeU_field, htwice, field_zero, storeU_storeU]

/-! ### The statements -/

/-- Settles O37: each operation writes the registers of its rule, and the accepted snapshot transfers. -/
theorem uikEntersAndCommits : Obligations.UikEntersAndCommits := by
  intro s
  refine ⟨rfl, fun haccept => ?_⟩
  have hwrites (x : Ui) : (.next ((takeIn .uiKeyIn s).setUi x) : Result) = .next _ :=
    congrArg _ (setUi_takeIn_of_uikAccept haccept x)
  exact ⟨hwrites _, hwrites _, hwrites _, hwrites _⟩

/-- Settles O42: a snapshot is accepted only with `led = 0` and `update` clear, which is no render request. -/
theorem halvesDoNotClash : Obligations.HalvesDoNotClash := by
  intro s haccept
  obtain ⟨-, hready⟩ := Bool.and_eq_true_iff.mp haccept
  obtain ⟨hled, hupdate⟩ := Bool.and_eq_true_iff.mp hready
  have hreq : uiRenderReq s = false := by
    simp only [Bool.not_eq_true'] at hupdate
    rw [uiRenderReq, eq_of_beq hled, hupdate]
    rfl
  obtain ⟨-, hrstep, hrlast, hrstall, -⟩ := uioSelection s
  simp [hrstep, hrlast, hrstall, hreq]

/-- Settles O38: the candidate is below `chans`, so the sum and the difference leave the range at its ends alone. -/
theorem uikStepsWrap : Obligations.UikStepsWrap := by
  intro s hs haccept
  obtain ⟨-, -, -, -, -, -, hindices, -⟩ := hs
  obtain ⟨-, hedit⟩ := (okUiIndices_iff s).mp hindices
  refine ⟨?_, ?_⟩
  · change execUikStepUp s = _
    rw [execUikStepUp, succ_mod_eq_ite hedit, setUi_takeIn_of_uikAccept haccept]
  · change execUikStepDown s = _
    rw [execUikStepDown, pred_mod_eq_ite hedit, setUi_takeIn_of_uikAccept haccept]

/-- Settles O39: the frame of step `led` enters the slot, and before the last step `led + 1` still fits `AW` bits. -/
theorem uioSweepsOneFrame : Obligations.UioSweepsOneFrame := by
  intro s hs _ _
  have hled := led_lt_leds_of_inv hs
  refine ⟨fun hbefore => ?_, fun hlast => ?_⟩
  · have hnext := inU_AW_of_lt_leds (wellFormed_of_inv hs) (show s.ui.led + 1 < s.cfg.leds by omega)
    change execUioRstep s = _
    rw [execUioRstep, storeU_of_inU hnext, renderFrame_of_inv hs, decide_eq_false hbefore, setUi_deliver_uiOut]
  · change execUioRlast s = _
    rw [execUioRlast, renderFrame_of_inv hs, decide_eq_true hlast, setUi_deliver_uiOut]

/-- Settles O40: with the slot free and no sweep an offered frame transfers, and the slot takes its fields unchanged. -/
theorem uioPassesAndDrains : Obligations.UioPassesAndDrains := by
  intro s
  refine ⟨rfl, rfl, fun hreq hslot => ⟨fun hvalid => ⟨?_, packLed_ptFrame s, rfl, rfl⟩, fun _ => ?_⟩⟩
  · change execUioPass s = _
    rw [execUioPass, setUi_deliver_uiOut, logAfter_takeIn, takeIn_spec, if_pos (inXfer_uiPtIn hreq hslot hvalid)]
    rfl
  · change execUioDrain s = _
    rw [execUioDrain, setUi_deliver_uiOut]

end Sys2Proof.Machine
end

section
/-! PROOF. The sweep of the LED ring (46_selection.md R338, R339). While `update` is set UIK accepts no snapshot and UIO
takes no pass-through frame; with a consumer that is always ready each tick loads one frame and passes on the one
before. -/

namespace Sys2Proof.Machine

/-! ### A sweep that runs -/

/-- A good state whose inputs are scripted, whose consumer of `ui_out` is always ready, and whose sweep is triggered. -/
structure Sweeping (s : State) : Prop where
  inv : Inv s
  trace : s.env.trace = []
  sink : s.env.sinks.uiOut = .ready
  update : s.ui.update = true

/-- The frame in the output slot, if any. -/
def frameHeld (s : State) : List Item := if s.ui.ov then [outItem .uiOut s] else []

section Signals
variable {s : State} (hs : Sweeping s)
include hs

theorem Sweeping.uiOut_ready : outReady .uiOut s = true := by
  simp [outReady, rawInputs, hs.trace, hs.sink, OutPorts.get, Sink.readyAt]

theorem Sweeping.slotFree : uiSlotFree s = true := by
  rw [uiSlotFree, Machine.slotFree, hs.uiOut_ready, Bool.or_true]

theorem Sweeping.renderReq : uiRenderReq s = true := by rw [uiRenderReq, hs.update, Bool.true_or]

theorem Sweeping.keys_wait : uiKeyReady s = false := by
  rw [uiKeyReady, hs.update, Bool.not_true, Bool.and_false]

theorem Sweeping.passThrough_waits : uiPtReady s = false := by
  rw [uiPtReady, hs.renderReq, Bool.not_true, Bool.and_false]

theorem Sweeping.selected_uik : selected .uik s = some .uikNone := by
  have hno : uikAccept s = false := by rw [uikAccept, hs.keys_wait, Bool.and_false]
  rw [Machine.selected_uik, hno]
  rfl

theorem Sweeping.selected_uio :
    selected .uio s = some (if s.ui.led = s.cfg.leds - 1 then .uioRlast else .uioRstep) := by
  rw [Machine.selected_uio, if_pos hs.renderReq, if_pos hs.slotFree]
  simp only [uiLedLast_iff]

theorem Sweeping.items_logAfter : items (logAfter .uiOut s) = items s.env.taken.uiOut ++ frameHeld s := by
  have hxfer : outXfer .uiOut s = s.ui.ov := by
    rw [outXfer, hs.uiOut_ready, Bool.and_true]
    rfl
  rw [logAfter, hxfer, frameHeld]
  split_ifs with hheld
  · exact List.map_append
  · exact (List.append_nil _).symm

/-! ### The ticks of a sweep -/

/-- The sweep's operation of a tick loads the frame of step `led`. -/
theorem Sweeping.executes_load :
    ∃ i r, selected .uio s = some i ∧ exec i s = .next r ∧ r.cfg = s.cfg ∧
      r.ui.led = (if s.ui.led + 1 = s.cfg.leds then 0 else s.ui.led + 1) ∧
      r.ui.update = decide (s.ui.led + 1 ≠ s.cfg.leds) ∧ r.ui.ov = true ∧
      outItem .uiOut r = sweepItem s.cfg s.ui.channel s.ui.edit s.ui.led := by
  have hsel := hs.selected_uio
  obtain ⟨hrstep, hrlast⟩ := uioSweepsOneFrame s hs.inv hs.renderReq hs.slotFree
  have hled := led_lt_leds_of_inv hs.inv
  by_cases hlast : s.ui.led = s.cfg.leds - 1
  · have hend : s.ui.led + 1 = s.cfg.leds := by omega
    rw [if_pos hlast] at hsel
    refine ⟨_, _, hsel, hrlast hlast, rfl, (if_pos hend).symm, (decide_eq_false (not_not.mpr hend)).symm, rfl, ?_⟩
    simp only [outItem, sweepItem, Bool.beq_eq_decide_eq, decide_eq_true hlast]
  · have hmore : s.ui.led + 1 ≠ s.cfg.leds := by omega
    rw [if_neg hlast] at hsel
    refine ⟨_, _, hsel, hrstep hlast, rfl, (if_neg hmore).symm, hs.update.trans (decide_eq_true hmore).symm, rfl, ?_⟩
    simp only [outItem, sweepItem, Bool.beq_eq_decide_eq, decide_eq_false hlast]

end Signals

/-- From `s` to `t` a sweep has loaded the frames of the steps `led` to `led + k`: all but the last have left after the
frame the slot held, and the selection and the queues of UI are as they were. -/
structure FramesLoaded (s t : State) (k : Nat) : Prop where
  cfg : t.cfg = s.cfg
  channel : t.ui.channel = s.ui.channel
  edit : t.ui.edit = s.ui.edit
  keyQueue : t.env.queues.uiKeyIn = s.env.queues.uiKeyIn
  frameQueue : t.env.queues.uiPtIn = s.env.queues.uiPtIn
  led : t.ui.led = if s.ui.led + k + 1 = s.cfg.leds then 0 else s.ui.led + k + 1
  update : t.ui.update = decide (s.ui.led + k + 1 ≠ s.cfg.leds)
  valid : t.ui.ov = true
  item : outItem .uiOut t = sweepItem s.cfg s.ui.channel s.ui.edit (s.ui.led + k)
  log : items t.env.taken.uiOut =
    items s.env.taken.uiOut ++ frameHeld s ++
      (List.range k).map fun j => sweepItem s.cfg s.ui.channel s.ui.edit (s.ui.led + j)

/-- A clean tick loads one frame, whatever the other units do. -/
theorem Sweeping.loads_frame {s u : State} (hs : Sweeping s) (h : step s = .next u) (hnone : u.fault = none) :
    FramesLoaded s u 0 := by
  obtain ⟨hqueues, hlogs⟩ := transfersFollowTheHandshake s u h hnone
  obtain ⟨-, rfl⟩ := cleanTick_of_step h hnone
  obtain ⟨i, r, hsel, hexec, hcfg, hled, hupdate, hvalid, hitem⟩ := hs.executes_load
  have huio : unitState s .uio = r := unitState_of_exec hsel hexec
  have huik : unitState s .uik = s := unitState_of_exec hs.selected_uik rfl
  exact
    { cfg := rfl
      channel := congrArg (·.ui.channel) huik
      edit := congrArg (·.ui.edit) huik
      keyQueue := (hqueues .uiKeyIn).trans
        (queueAfter_of_not_ready (p := .uiKeyIn) (ne_true_of_eq_false hs.keys_wait)).symm
      frameQueue := (hqueues .uiPtIn).trans
        (queueAfter_of_not_ready (p := .uiPtIn) (ne_true_of_eq_false hs.passThrough_waits)).symm
      led := (congrArg (·.ui.led) huio).trans hled
      update := (if_pos hs.update).trans ((congrArg (·.ui.update) huio).trans hupdate)
      valid := (congrArg (·.ui.ov) huio).trans hvalid
      item := (outItem_endTick_commit (p := .uiOut) (huio ▸ hcfg)).trans ((congrArg (outItem .uiOut) huio).trans hitem)
      log := by
        rw [List.range_zero, List.map_nil, List.append_nil, ← hs.items_logAfter]
        exact congrArg items (hlogs .uiOut) }

/-- A sweep whose last frame is still to come goes on. -/
theorem Sweeping.after_step {s u : State} (hs : Sweeping s) (h : step s = .next u) (hnone : u.fault = none)
    (hmore : s.ui.led + 1 < s.cfg.leds) : Sweeping u := by
  obtain ⟨htrace, hsinks⟩ := script_of_step h hnone hs.trace
  exact
    { inv := stepKeepsTheInvariant s u hs.inv h
      trace := htrace
      sink := hsinks ▸ hs.sink
      update := (hs.loads_frame h hnone).update.trans (decide_eq_true hmore.ne) }

/-- The first frame of a sweep leaves the slot when the second is loaded. -/
theorem FramesLoaded.cons {s u t : State} {k : Nat} (hfirst : FramesLoaded s u 0) (hmore : s.ui.led + 1 < s.cfg.leds)
    (hrest : FramesLoaded u t k) : FramesLoaded s t (k + 1) := by
  have hled : u.ui.led = s.ui.led + 1 := hfirst.led.trans (if_neg hmore.ne)
  have hsteps (j : Nat) : u.ui.led + j = s.ui.led + (j + 1) := by omega
  have hheld : frameHeld u = [sweepItem s.cfg s.ui.channel s.ui.edit s.ui.led] := by
    rw [frameHeld, if_pos hfirst.valid, hfirst.item, Nat.add_zero]
  obtain ⟨hcfg, hchannel, hedit, hkeys, hframes, hend, hupdate, hvalid, hitem, hlog⟩ := hrest
  simp only [hsteps, hfirst.cfg, hfirst.channel, hfirst.edit] at hcfg hchannel hedit hend hupdate hitem hlog
  refine ⟨hcfg, hchannel, hedit, hkeys.trans hfirst.keyQueue, hframes.trans hfirst.frameQueue, hend, hupdate, hvalid,
    hitem, ?_⟩
  rw [hlog, hfirst.log, hheld, List.range_succ_eq_map]
  simp [Function.comp_def]

/-- A run of `k + 1` clean ticks within the sweep loads `k + 1` frames. -/
theorem Sweeping.run_loads_frames {k : Nat} {s t : State} (hs : Sweeping s) (hk : s.ui.led + k + 1 ≤ s.cfg.leds)
    (h : cleanRun (k + 1) s = some t) : FramesLoaded s t k := by
  induction k generalizing s with
  | zero =>
    obtain ⟨u, hstep, hnone, hend⟩ := exists_step_of_cleanRun_succ h
    obtain rfl := Option.some.inj hend
    exact hs.loads_frame hstep hnone
  | succ k ih =>
    obtain ⟨u, hstep, hnone, hrun⟩ := exists_step_of_cleanRun_succ h
    have hmore : s.ui.led + 1 < s.cfg.leds := by omega
    have hfirst := hs.loads_frame hstep hnone
    have hled : u.ui.led = s.ui.led + 1 := hfirst.led.trans (if_neg hmore.ne)
    have hrest : FramesLoaded u t k := ih (hs.after_step hstep hnone hmore) (by rw [hled, hfirst.cfg]; omega) hrun
    exact hfirst.cons hmore hrest

/-- Settles O41: the sweep starts at step 0, so `m` ticks load the frames of the steps 0 to `m - 1`. -/
theorem sweepEmitsEveryFrame : Obligations.SweepEmitsEveryFrame := by
  intro s t m hinv htrace hsink hupdate hled hm hle hrun
  obtain ⟨k, rfl⟩ : ∃ k, m = k + 1 := ⟨m - 1, by omega⟩
  have hs : Sweeping s := ⟨hinv, htrace, hsink, hupdate⟩
  have hloaded := hs.run_loads_frames (by omega) hrun
  obtain ⟨-, hchannel, hedit, hkeys, hframes, hend, hcleared, hvalid, hitem, hlog⟩ := hloaded
  simp only [hled, Nat.zero_add] at hend hcleared hitem hlog
  exact ⟨hchannel, hedit, hkeys, hframes, hend, hcleared, hvalid, hitem, hlog⟩

end Sys2Proof.Machine
end

section
/-! PROOF. The statements of 60_exceptions.md: what each fault records, the halt and the reset that ends it (R370-R376),
and that a good state takes no fault. A tick from a good state is clean for one reason per kind of fault: its words are
legal (R372), only an index outside the ring buffer or a full slot in `MUL` stops an operation, and the committed
registers are again good (R373). -/

namespace Sys2Proof.Machine

/-! ### The operations that can stop a tick -/

/-- An operation keeps the fault register. Three have an exception: BOX.ACCEPT and BOX.WRITE at an index outside the ring
buffer (20_memory.md R81) and QNT.MUL on a full slot (60_exceptions.md R373). -/
theorem exec_keeps_fault {s : State} {i : Instr} (haddr : s.box.addr < s.cfg.D)
    (hslot : i = .qntMul → s.qnt.ov = false) : ∃ t, exec i s = .next t ∧ t.fault = s.fault := by
  cases i
  case rectStall | rectNone | boxWaitin | boxAccum | boxEmit | boxHold | peakKeep | barPresent | barStall | barWaitin |
      keyWaitin | keyDone | keyIsolate | keySendwait | uikNone | uioRstall | uioKeep => exact ⟨_, rfl, rfl⟩
  case boxAccept =>
    change ∃ t, execBoxAccept s = .next t ∧ _
    rw [execBoxAccept, memRead_of_lt haddr]
    exact ⟨_, rfl, rfl⟩
  case boxWrite =>
    change ∃ t, execBoxWrite s = .next t ∧ _
    rw [execBoxWrite, memWrite_of_lt _ haddr]
    exact ⟨_, rfl, rfl⟩
  case qntMul =>
    change ∃ t, execQntMul s = .next t ∧ _
    rw [execQntMul, if_neg (ne_true_of_eq_false (hslot rfl))]
    exact ⟨_, rfl, rfl⟩
  case rectXfer | barAccept | keyAccept | uikEnter | uikIgnore0 | uikCommit | uikStepUp | uikStepDown | uikIgnore1 =>
    exact ⟨_, rfl, takeIn_fault _ s⟩
  case boxDrain | peakDrain | qntSathi | qntSatlo | qntDefer | qntHalf | qntNoacc | keySend | uioRstep | uioRlast |
      uioDrain =>
    exact ⟨_, rfl, deliver_fault _ s⟩
  case peakAttack | peakHold | peakDecay | uioPass =>
    exact ⟨_, rfl, (deliver_fault _ _).trans (takeIn_fault _ s)⟩

/-- QNT runs MUL in its state `MUL` alone (30_encoding.md R115). -/
theorem qntState_of_selected_mul {s : State} (h : selected .qnt s = some .qntMul) : s.qnt.state = qntMul := by
  rw [selected_qnt] at h
  split_ifs at h with hmul
  · exact hmul
  all_goals cases h

/-- In a good state the slot is empty while QNT is in `MUL` (10_state.md R29). -/
theorem slot_empty_of_mul {s : State} (h : QntInv s) (hmul : s.qnt.state = qntMul) : s.qnt.ov = false := by
  obtain ⟨-, -, -, hok⟩ := h
  simpa [okQntSlot, hmul] using hok

/-- In a good state that is not halted every unit selects an operation and runs it to a state without a fault. -/
theorem executes_of_inv {s : State} (hs : Inv s) (hfault : s.fault = none) (u : UnitId) :
    ∃ i, selected u s = some i ∧ exec i s = .next (unitState s u) ∧ (unitState s u).fault = none := by
  obtain ⟨i, hsel, hunit⟩ := goodStatesSelectLegalOperations s hs u
  obtain ⟨-, ⟨-, haddr, -⟩, -, hqnt, -⟩ := hs
  have hslot (hi : i = .qntMul) : s.qnt.ov = false := by
    subst hi hunit
    exact slot_empty_of_mul hqnt (qntState_of_selected_mul hsel)
  obtain ⟨t, hexec, ht⟩ := exec_keeps_fault haddr hslot
  rw [unitState_of_exec hsel hexec]
  exact ⟨i, hsel, hexec, ht.trans hfault⟩

/-! ### A clean tick of a good state -/

/-- The checks of R373 are parts of the invariant. -/
theorem failedAssertion_of_inv {s : State} (h : Inv s) : failedAssertion s = none := by
  obtain ⟨-, ⟨-, -, -, -, -, -, -, -, -, hbox, -⟩, ⟨-, -, -, hpeak⟩, ⟨-, -, -, hqnt⟩, -, ⟨-, -, -, -, hkey⟩,
    hindices, hled, -⟩ := h
  simp [failedAssertion, hbox, hpeak, hqnt, hkey, hindices, hled]

theorem cleanTick_of_inv {s : State} (hs : Inv s) (hfault : s.fault = none) (hkeeps : envKeeps s = true) :
    CleanTick s := by
  have hrun := executes_of_inv hs hfault
  refine ⟨(envKeeps_iff s).mp hkeeps, fun u => ?legal, fun u => ?runs, failedAssertion_of_inv ?good⟩
  case legal =>
    obtain ⟨i, hsel, -⟩ := hrun u
    exact Option.isSome_of_eq_some hsel
  case runs =>
    obtain ⟨i, hsel, hexec, hnone⟩ := hrun u
    exact unitStop_of_exec hsel hexec hnone
  case good =>
    refine commit_keeps_inv hs fun u => ?_
    obtain ⟨i, hsel, hexec, -⟩ := hrun u
    exact ⟨i, hsel, hexec⟩

/-- Settles O52: the tick is clean, and the commit leaves the fault register of the start of the tick. -/
theorem goodStatesRunWithoutFault : Obligations.GoodStatesRunWithoutFault := by
  intro s hs hfault hkeeps
  have hclean := cleanTick_of_inv hs hfault hkeeps
  exact ⟨_, (step_of_not_halted hfault).trans (tick_of_clean hclean), hfault⟩

/-! ### The monitors (R371) -/

theorem nextMonitor_pending (s : State) (p : InPort) :
    (nextMonitor s p).pending = (inValid p s && !inReady p s) := by
  unfold nextMonitor
  split_ifs with hwaits
  · exact hwaits.symm
  · exact (eq_false_of_ne_true hwaits).symm

/-- Settles O47: a clean tick leaves each monitor at the record of its port's offer. -/
theorem monitorsRecordPendingOffers : Obligations.MonitorsRecordPendingOffers := by
  intro s t h hfault p
  obtain ⟨-, rfl⟩ := cleanTick_of_step h hfault
  rw [mon_endTick]
  refine ⟨nextMonitor_pending s p, fun hvalid hstall => ?_⟩
  have hpending : (nextMonitor s p).pending = true := by rw [nextMonitor_pending, hvalid, hstall]; rfl
  obtain ⟨-, -, hitem⟩ := offer_of_nextMonitor_pending hpending
  exact hitem

/-! ### Faults with a single cause (R375) -/

/-- A search for the one element that meets a test finds it. -/
theorem find?_eq_some_of_unique {α : Type} {l : List α} {test : α → Bool} {a : α} (hmem : a ∈ l) (ha : test a = true)
    (honly : ∀ b, b ≠ a → test b = false) : l.find? test = some a := by
  cases hfind : l.find? test with
  | none => exact absurd ha (List.find?_eq_none.mp hfind a hmem)
  | some b =>
    have hb := List.find?_some hfind
    exact congrArg some (not_imp_comm.mp (honly b) (ne_false_of_eq_true hb))

/-- Settles O54: the port that breaches its obligation is the one the tick finds. -/
theorem brokenObligationFaults : Obligations.BrokenObligationFaults := by
  intro s p hfault hbreach honly
  have hport : InPort.all.find? (breaches s) = some p := find?_eq_some_of_unique (InPort.mem_all p) hbreach honly
  rw [step_of_not_halted hfault, tick, hport]
  rfl

/-- Settles O55: no port breaches its obligation, and the unit without an operation is the one the tick finds. -/
theorem illegalSelectorFaults : Obligations.IllegalSelectorFaults := by
  intro s u hfault hkeeps hnone honly
  have hports : InPort.all.find? (breaches s) = none :=
    List.find?_eq_none.mpr fun p _ => ne_true_of_eq_false ((envKeeps_iff s).mp hkeeps p)
  have hword : UnitId.all.find? (fun v => (selected v s).isNone) = some u :=
    find?_eq_some_of_unique (UnitId.mem_all u) (Option.isNone_iff_eq_none.mpr hnone) fun v hv =>
      Option.isNone_eq_false_iff.mpr (honly v hv)
  rw [step_of_not_halted hfault, tick, hports]
  simp only [hword]
  rfl

/-! ### The halt (R376) -/

/-- Settles O57: a halted step answers the recorded fault, and reset writes every register anew. -/
theorem haltLastsUntilReset : Obligations.HaltLastsUntilReset := by
  intro s f hfault
  have hhalted : step s = .fault (.halted f) := by rw [step, hfault]
  have hmonitors (p : InPort) : ((applyReset s).mon.get p).pending = false := by cases p <;> rfl
  exact ⟨hhalted, rfl, rfl, hmonitors, rfl, rfl, rfl, rfl, rfl, rfl⟩

end Sys2Proof.Machine
end

section
/-! PROOF. The configuration check (70_reset_and_hazards.md R405): the arithmetic condition behind each named check, and
the statement of what is accepted and what a refusal names. -/

namespace Sys2Proof

/-! ### The condition of each check -/

theorem Config.exists_D_eq_two_pow_iff (c : Config) : (∃ k, c.D = 2 ^ k) ↔ c.D = 2 ^ c.k := by
  refine ⟨fun ⟨k, hk⟩ => ?_, fun h => ⟨c.k, h⟩⟩
  rw [Config.k, hk, Nat.log2_two_pow]

/-- The conditions of R405's table as propositions over the parameters of 00_scope.md R7. -/
def Check.Holds (c : Config) : Check → Prop
  | .rectBox => 1 ≤ c.WR ∧ c.WR + 1 ≤ c.WB
  | .dPow2 => ∃ k, c.D = 2 ^ k
  | .sumW => c.S = c.WB + c.k + 1
  | .peak => 1 ≤ c.WP ∧ 1 ≤ c.n
  | .qntW => 1 ≤ c.OW ∧ c.OW + 1 ≤ c.IW
  | .numSegments => 1 ≤ c.N ∧ c.thr.length = c.N + 1 ∧ c.mul.length = c.N
  | .thrAsc => (∀ i, i < c.N → c.thrAt i < c.thrAt (i + 1)) ∧ c.thrAt c.N < 2 ^ c.IW
  | .mulNonzero => ∀ i, i < c.N → c.mulAt i ≠ 0
  | .mulW => 1 ≤ c.MW ∧ ∀ i, i < c.N → c.mulAt i < 2 ^ c.MW
  | .keyWidth => 1 ≤ c.K
  | .uiKeys =>
    1 ≤ c.KU ∧ c.swBit ≠ c.aBit ∧ c.swBit ≠ c.bBit ∧ c.aBit ≠ c.bBit ∧ c.swBit < c.KU ∧ c.aBit < c.KU ∧ c.bBit < c.KU
  | .uiRing => 1 ≤ c.chans ∧ 1 ≤ c.leds ∧ c.leds ≤ 2 ^ c.AW ∧ c.chans ≤ 2 ^ c.CHW ∧ 1 ≤ c.AW
  | .brightness => 1 ≤ c.CW ∧ c.bright < 2 ^ c.CW

theorem Check.passes_iff (c : Config) (k : Check) : k.passes c = true ↔ k.Holds c := by
  cases k with
  | rectBox => simp [passes, Holds, Config.okRectBox]
  | dPow2 => simp [passes, Holds, Config.okDPow2, Config.exists_D_eq_two_pow_iff]
  | sumW => simp [passes, Holds, Config.okSumW]
  | peak => simp [passes, Holds, Config.okPeak]
  | qntW => simp [passes, Holds, Config.okQntW]
  | numSegments => simp [passes, Holds, Config.okN, and_assoc]
  | thrAsc => simp [passes, Holds, Config.okThrAsc]
  | mulNonzero => simp [passes, Holds, Config.okMulNonzero]
  | mulW => simp [passes, Holds, Config.okMulW]
  | keyWidth => simp [passes, Holds, Config.okKey]
  | uiKeys => simp [passes, Holds, Config.okUiKeys, and_assoc]
  | uiRing => simp [passes, Holds, Config.okUi, and_assoc]
  | brightness => simp [passes, Holds, Config.okBright]

/-! ### Acceptance -/

theorem Config.wellFormed_iff (c : Config) : c.wellFormed = true ↔ ∀ k ∈ Check.all, k.Holds c := by
  simp only [wellFormed, List.all_eq_true, Check.passes_iff]

/-- An accepted configuration meets the condition of every check. -/
theorem Config.holds_of_wellFormed {c : Config} (h : c.wellFormed = true) (k : Check) : k.Holds c :=
  (Check.passes_iff c k).mp (passes_of_wellFormed h k)

theorem Config.D_pos {c : Config} (h : c.wellFormed = true) : 0 < c.D := by
  obtain ⟨k, hk⟩ := holds_of_wellFormed h .dPow2
  exact hk ▸ Nat.two_pow_pos k

theorem Config.one_le_chans {c : Config} (h : c.wellFormed = true) : 1 ≤ c.chans := by
  obtain ⟨hchans, -⟩ := holds_of_wellFormed h .uiRing
  exact hchans

theorem Config.chans_le_two_pow_CHW {c : Config} (h : c.wellFormed = true) : c.chans ≤ 2 ^ c.CHW := by
  obtain ⟨-, -, -, hwidth, -⟩ := holds_of_wellFormed h .uiRing
  exact hwidth

/-! ### Refusal -/

theorem Config.mem_failedChecks (c : Config) (k : Check) : k ∈ c.failedChecks ↔ k.passes c = false := by
  simp [failedChecks, k.mem_all]

theorem Config.failedChecks_eq_nil_iff (c : Config) : c.failedChecks = [] ↔ c.wellFormed = true := by
  simp [failedChecks, wellFormed]

end Sys2Proof

namespace Sys2Proof.Machine

theorem boot_of_wellFormed {c : Config} (h : c.wellFormed = true) : boot c = .next (State.resetWith c) := if_pos h

theorem boot_of_not_wellFormed {c : Config} (h : c.wellFormed = false) :
    boot c = .refused (.configuration c.failedChecks) := if_neg (ne_true_of_eq_false h)

/-! ### The statement -/

/-- Settles O60: acceptance is every check's condition, and the refusal lists the checks that fail. -/
theorem configurationCheck : Obligations.ConfigurationCheck := by
  intro c
  refine ⟨?_, fun hrefused => ⟨boot_of_not_wellFormed hrefused, fun hnil => ?_⟩, c.mem_failedChecks⟩
  · simp only [c.wellFormed_iff, Check.all, List.forall_mem_cons, List.not_mem_nil, false_imp_iff, implies_true,
      and_true]
    exact Iff.rfl
  · exact ne_true_of_eq_false hrefused (c.failedChecks_eq_nil_iff.mp hnil)

end Sys2Proof.Machine
end

section
/-! PROOF. The statements of 70_reset_and_hazards.md about the state and the ports after reset (R400-R406). All registers
but `bar.idx` are zero, so the invariant asks of the configuration only that the ranges of R25, R27 and R34 are not
empty. -/

namespace Sys2Proof.Machine

/-! ### The invariant after reset, unit by unit -/

theorem inU_zero (w : Nat) : inU w 0 := Nat.two_pow_pos w

/-- The sum of the empty window is the reset value of `box.sum` (10_state.md R25). -/
theorem boxInv_resetWith {c : Config} (h : c.wellFormed = true) : BoxInv (State.resetWith c) := by
  have hcode : boxIdle ≤ boxWait := by decide
  have hsum : okBoxSum (State.resetWith c) = true :=
    (okBoxSum_iff_of_not_accum (by decide : boxIdle ≠ boxAccum)).mpr (Memory.total_nil c.D).symm
  exact ⟨hcode, Config.D_pos h, inS_zero _, inS_zero _, inS_zero _, inS_zero _, inS_zero _, rfl,
    List.forall_mem_nil _, hsum, Nat.zero_le _, fun _ => rfl⟩

theorem peakInv_resetWith {c : Config} (h : c.wellFormed = true) : PeakInv (State.resetWith c) :=
  ⟨inU_zero _, inU_zero _, inU_zero _, (okPeak_iff _).mpr ⟨Config.one_le_n h, Nat.zero_le _⟩⟩

theorem qntInv_resetWith (c : Config) : QntInv (State.resetWith c) :=
  ⟨inU_zero _, inU_zero _, inU_zero _, okQntSlot_of_idle rfl⟩

theorem barInv_resetWith (c : Config) : BarInv (State.resetWith c) := ⟨le_rfl, inU_zero _⟩

theorem keyInv_resetWith (c : Config) : KeyInv (State.resetWith c) := by
  have hcode : keyIdle ≤ keySend := by decide
  exact ⟨hcode, inU_zero _, inU_zero _, inU_zero _, okKeyMask_of_not_send (by decide : keyIdle ≠ keySend)⟩

theorem uiInv_resetWith {c : Config} (h : c.wellFormed = true) : UiInv (State.resetWith c) :=
  ⟨(okUiIndices_iff _).mpr ⟨Config.one_le_chans h, Config.one_le_chans h⟩, (okUiLed_iff _).mpr (Config.one_le_leds h),
    inU_zero _, inU_zero _, inU_zero _, inU_zero _, inU_zero _⟩

theorem inv_resetWith {c : Config} (h : c.wellFormed = true) : Inv (State.resetWith c) :=
  ⟨h, boxInv_resetWith h, peakInv_resetWith h, qntInv_resetWith c, barInv_resetWith c, keyInv_resetWith c,
    uiInv_resetWith h⟩

/-! ### The ports after reset -/

theorem inReady_resetWith (c : Config) (p : InPort) : inReady p (State.resetWith c) = true := by
  cases p with
  | barIn => exact beq_self_eq_true c.N
  | rectIn | peakIn | keyIn | uiKeyIn | uiPtIn => rfl

theorem outValid_resetWith (c : Config) (p : OutPort) : outValid p (State.resetWith c) = false := by
  cases p <;> rfl

theorem mon_pending_resetWith (c : Config) (p : InPort) : ((State.resetWith c).mon.get p).pending = false := by
  cases p <;> rfl

/-- In a good state the channel fits the width of `ui_sel` (46_selection.md R340). -/
theorem uiSel_of_inv {s : State} (hs : Inv s) : uiSel s = s.ui.channel := by
  obtain ⟨hc, -, -, -, -, -, hindices, -⟩ := hs
  obtain ⟨hchannel, -⟩ := (okUiIndices_iff s).mp hindices
  exact storeU_of_inU (hchannel.trans_le (Config.chans_le_two_pow_CHW hc))

/-! ### The ring buffer outside its range -/

theorem memRead_of_le {s : State} {a : Nat} (h : s.cfg.D ≤ a) : memRead s a = none := if_neg (not_lt.mpr h)

theorem memWrite_of_le {s : State} {a : Nat} (v : Int) (h : s.cfg.D ≤ a) : memWrite s a v = none :=
  if_neg (not_lt.mpr h)

/-! ### The statements -/

/-- Settles O50: each unit's registers are good after reset, and the default configuration passes the check. -/
theorem bootGivesAGoodState : Obligations.BootGivesAGoodState := by
  have hdefault : Config.default.wellFormed = true := by decide
  exact ⟨fun _ hc => ⟨boot_of_wellFormed hc, inv_resetWith hc⟩, inv_resetWith hdefault, boot_of_wellFormed hdefault⟩

/-- Settles O58: the registers are those `State.resetWith` writes, and an empty buffer reads 0 at every index. -/
theorem resetSetsEveryRegister : Obligations.ResetSetsEveryRegister := by
  intro c
  have hwords (a : Nat) : (State.resetWith c).box.buf.read a = 0 := rfl
  exact ⟨rfl, hwords, rfl, rfl, rfl, rfl, rfl, rfl, mon_pending_resetWith c, rfl⟩

/-- Settles O59: each unit waits with its slot empty, and `ui_sel` loses no bit of a good channel. -/
theorem portsAfterReset : Obligations.PortsAfterReset := by
  intro c
  have hsel : uiSel (State.resetWith c) = 0 := storeU_zero _
  exact ⟨inReady_resetWith c, outValid_resetWith c, hsel, fun _ => uiSel_of_inv⟩

/-- Settles O56: outside the buffer neither the read nor the write has a word, and a good address is inside. -/
theorem ringIndexOutsideTheBufferStops : Obligations.RingIndexOutsideTheBufferStops := by
  intro s
  refine ⟨fun houtside => ⟨?_, ?_⟩, fun ⟨_, ⟨_, haddr, _⟩, _⟩ => haddr⟩
  · change execBoxAccept s = _
    rw [execBoxAccept, memRead_of_le houtside]
  · change execBoxWrite s = _
    rw [execBoxWrite, memWrite_of_le _ houtside]

end Sys2Proof.Machine
end
